-- ==== Sys2Proof/Word.lean ====
section
/-! DEFINITION. The word types of the SPI transaction engine (rules R7, R8, R9). All quantities are unsigned. -/
namespace Sys2Proof

/-- One data byte: every byte moved between the block, the peripheral and caller memory is 8 bits (R8). -/
abbrev Byte := BitVec 8

/-- A caller-memory byte address, `ADDR_W` = 32 bits (R7). -/
abbrev Addr := BitVec 32

/-- A length or remaining count, `LEN_W` = 16 bits (R7). -/
abbrev Len := BitVec 16

/-- A diagnostic counter or the tick counter, `CNT_W` = 32 bits (R7). -/
abbrev Count := BitVec 32

/-- A 32-bit peripheral register (R30, R31). -/
abbrev Reg := BitVec 32

/-- A ring-buffer index: `RB_K` ≤ 16 significant bits, kept masked (R36). -/
abbrev RbIdx := BitVec 16

/-- A 128-bit command or response word (R65, R72). -/
abbrev CmdWord := BitVec 128

end Sys2Proof
end

