-- ==== Sys2Proof/Syntax.lean ====
section
/-! DEFINITION. The moves of the machine: one constructor of `Instr` per row of spec/opcode_table.json (R69, R73), and what
the outside world can schedule (R6, R56, R75). -/
namespace Sys2Proof

/-- Every row of the opcode table. The first eight are the commands of the port (R69), the next four the steps of the
other agents and of the waiting caller, the next seven the internal procedures (R73), and the last one stands for every
word the port refuses (R70). -/
inductive Instr where
  /-- `INIT`, format `I` (R105). -/
  | init (csSw : Bool) (csPort csPin : BitVec 4)
  /-- `XFER`, format `X` (R107). -/
  | xfer (slen rlen : Len) (saddr raddr : Addr)
  /-- `TXONLY`, format `T` (R111). -/
  | txonly (slen : Len) (saddr : Addr)
  /-- `RXONLY`, format `R` (R112). -/
  | rxonly (rlen : Len) (raddr : Addr)
  /-- `RBDRAIN`, format `D` (R90). -/
  | rbdrain (daddr : Addr)
  /-- `STATUS`, format `N` (R113). -/
  | status
  /-- `CSASSERT`, format `N` (R99). -/
  | csassert
  /-- `CSDEASSERT`, format `N` (R100). -/
  | csdeassert
  /-- `IRQ`: one dispatcher invocation (R130). -/
  | irq
  /-- `TICK`: one step of the tick source (R41). -/
  | tick
  /-- `PSTEP`: one step of the peripheral (R35): flags set, then flags cleared, and perhaps the next received byte (R75). -/
  | pstep (set clr : Reg) (rx : Option Byte)
  /-- `POLL`: one step of the bounded wait (R116). -/
  | poll
  /-- `RB_WRITE`: ring-buffer write (R86). -/
  | rbWrite (b : Byte)
  /-- `CS_INIT`: chip-select configuration (R96). -/
  | csInit (sw : Bool) (port pin : BitVec 4)
  /-- `CS_ASSERT_P`: chip-select assert procedure (R97). -/
  | csAssertP
  /-- `CS_DEASSERT_P`: chip-select deassert procedure (R98). -/
  | csDeassertP
  /-- `FINALIZE`: end-of-transfer finalization (R117). -/
  | finalize
  /-- `CLEANUP`: early cleanup (R118). -/
  | cleanup
  /-- `ERRH`: the Error/Disable Handler, called with the invocation's snapshot `sr0` (R149). -/
  | errh (sr0 : Reg)
  /-- `RESERVED`: a word with a reserved opcode or a reserved-zero bit set (R70). -/
  | reserved (w : CmdWord)
  deriving DecidableEq, Repr

/-- Where a word is presented: on the command port, which accepts only the words of R69, or to the machine's
schedule under an internal identifier of R73, which the port never accepts. -/
inductive Channel where
  | port
  | event
  deriving DecidableEq, Repr, Inhabited

/-- One move of the outside world's schedule (log entry 2). -/
inductive Move where
  /-- A 128-bit word on a channel. -/
  | word (c : Channel) (w : CmdWord)
  /-- The platform (the caller's own code between commands) stores a byte in caller memory (R172 (3), R174; log entry 3). -/
  | store (a : Addr) (v : Byte)
  deriving DecidableEq, Repr, Inhabited

/-- The four agents of R6. -/
inductive Agent where
  | caller
  | irq
  | periph
  | tick
  deriving DecidableEq, Repr

/-- The agent whose step an instruction is; none for an internal procedure, which runs only inside another step (R73). -/
def Instr.agent : Instr → Option Agent
  | .init _ _ _ => some .caller
  | .xfer _ _ _ _ => some .caller
  | .txonly _ _ => some .caller
  | .rxonly _ _ => some .caller
  | .rbdrain _ => some .caller
  | .status => some .caller
  | .csassert => some .caller
  | .csdeassert => some .caller
  | .irq => some .irq
  | .tick => some .tick
  | .pstep _ _ _ => some .periph
  | .poll => some .caller
  | .rbWrite _ => none
  | .csInit _ _ _ => none
  | .csAssertP => none
  | .csDeassertP => none
  | .finalize => none
  | .cleanup => none
  | .errh _ => none
  | .reserved _ => some .caller

/-- Whether an instruction is a word on the command port (R69, R70). -/
def Instr.isCommand : Instr → Bool
  | .init _ _ _ => true
  | .xfer _ _ _ _ => true
  | .txonly _ _ => true
  | .rxonly _ _ => true
  | .rbdrain _ => true
  | .status => true
  | .csassert => true
  | .csdeassert => true
  | .irq => false
  | .tick => false
  | .pstep _ _ _ => false
  | .poll => false
  | .rbWrite _ => false
  | .csInit _ _ _ => false
  | .csAssertP => false
  | .csDeassertP => false
  | .finalize => false
  | .cleanup => false
  | .errh _ => false
  | .reserved _ => true

end Sys2Proof
end

