-- ==== Sys2Proof/Config.lean ====
section
/-! DEFINITION. What the hardware leaves free, and the parameters of R7 (93_implementation_defined.md I25 to I31). -/
namespace Sys2Proof

/-- The `n`-th byte the wire delivers where no `PERIPH` step has fixed the draw: under no law (R33, I7; log entry 6). -/
opaque Config.freeRx : Nat → Byte

/-- The `n`-th move the scheduler picks where nothing is scheduled from outside: the order is free (R6, R56; log entry 2). -/
opaque Config.freeMove : Nat → Move

/-- `RB_OVR_POLICY`: what the overrunning ring-buffer write does to `tail` (R87, I26). -/
inductive OvrPolicy where
  | dropOldest
  | literal
  deriving DecidableEq, Repr

/-- A range of admitted caller-memory addresses, `base` up to but not including `base + size`. -/
structure Region where
  base : Nat
  size : Nat
  deriving DecidableEq, Repr

/-- The parameters a model takes as arguments (R7). They stand in State, and no step writes them, so a statement over
every state holds for every value of them (log entry 1). -/
structure Params where
  /-- `RB_K`, 1 to 16 (I25). -/
  rbK : Nat
  /-- `RB_OVR_POLICY` (I26). -/
  ovrPolicy : OvrPolicy
  /-- `RX_VIA_RB` (I27). -/
  rxViaRb : Bool
  /-- `TIMEOUT_TICKS` (I31). -/
  timeoutTicks : Nat
  /-- `GPIO_PORTS`, 1 to 16 (I28). -/
  gpioPorts : Nat
  /-- `CLEANUP_SETS_DONE` (I29). -/
  cleanupSetsDone : Bool
  /-- `MEM_OK`, as the list of admitted ranges (I30). -/
  memOk : List Region
  deriving DecidableEq, Repr

/-- The parameter values `State.reset` starts with: those of R7 where R7 fixes or defaults one, otherwise the values of the
test vectors (95_test_vectors.md, Conventions); `cleanupSetsDone`, which has no default, is false (log entry 1). -/
def Params.reference : Params where
  rbK := 2
  ovrPolicy := .dropOldest
  rxViaRb := false
  timeoutTicks := 10
  gpioPorts := 8
  cleanupSetsDone := false
  memOk := [{ base := 0, size := 4294967296 }]

/-- The ranges R7 allows: `1 <= RB_K <= 16` and `1 <= GPIO_PORTS <= 16`. -/
abbrev Params.wf (p : Params) : Prop :=
  1 ≤ p.rbK ∧ p.rbK ≤ 16 ∧ 1 ≤ p.gpioPorts ∧ p.gpioPorts ≤ 16

end Sys2Proof
end

