-- ==== Sys2Proof/WellFormed.lean ====
section
/-! DEFINITION. Which instructions are well formed. Operands have the widths of their fields, so the one check is that
`reserved` holds a word the port does refuse (R67, R69, R70). -/
namespace Sys2Proof

/-- The reserved-zero mask of the format that opcode `op` selects on the port, none where the opcode is reserved
(R66, R67, R69). -/
def portMask (op : Byte) : Option CmdWord :=
  if op = 0x01#8 then some 0xFFFFFFFFFFFFFFFFFFFFFFFFFF00FE00#128
  else if op = 0x02#8 then some 0x0000000000000000FFFF00000000FF00#128
  else if op = 0x03#8 then some 0xFFFFFFFF00000000FFFFFFFF0000FF00#128
  else if op = 0x04#8 then some 0x00000000FFFFFFFFFFFF0000FFFFFF00#128
  else if op = 0x05#8 then some 0xFFFFFFFF00000000FFFFFFFFFFFFFF00#128
  else if op = 0x06#8 then some 0xFFFFFFFFFFFFFFFFFFFFFFFFFFFFFF00#128
  else if op = 0x07#8 then some 0xFFFFFFFFFFFFFFFFFFFFFFFFFFFFFF00#128
  else if op = 0x08#8 then some 0xFFFFFFFFFFFFFFFFFFFFFFFFFFFFFF00#128
  else none

/-- `OP = w[7:0]` in every format (R66). -/
def opField (w : CmdWord) : Byte := w.extractLsb' 0 8

/-- Steps 1 and 2 of the decode order accept the word (R71). -/
def legalWord (w : CmdWord) : Bool :=
  match portMask (opField w) with
  | none => false
  | some m => w &&& m == 0#128

/-- An instruction is well formed: a `reserved` word is one the port refuses; every other operand fits by its type. -/
def WellFormed : Instr → Bool
  | .init _ _ _ => true
  | .xfer _ _ _ _ => true
  | .txonly _ _ => true
  | .rxonly _ _ => true
  | .rbdrain _ => true
  | .status => true
  | .csassert => true
  | .csdeassert => true
  | .irq => true
  | .tick => true
  | .pstep _ _ _ => true
  | .poll => true
  | .rbWrite _ => true
  | .csInit _ _ _ => true
  | .csAssertP => true
  | .csDeassertP => true
  | .finalize => true
  | .cleanup => true
  | .errh _ => true
  | .reserved w => !legalWord w

end Sys2Proof
end

