-- ==== Sys2Proof/Decode.lean ====
section
/-! DEFINITION. The decoder of command words and of the schedule's internal words, and the encoder beside it
(30_encoding.md, R50, R65 to R73, R77). -/
namespace Sys2Proof

/-- Why a word or a byte string is no instruction. The port refuses nothing here: a word it does not know is the
instruction `reserved` (R70). -/
inductive DecodeError where
  /-- Fewer than the 16 bytes of a word (R65: there is one command length). -/
  | truncated
  /-- No internal identifier of R73. -/
  | unknownEvent (op : Byte)
  /-- A bit outside the operand fields of the internal word is set (the model's own layout, log entry 4). -/
  | eventReservedBit
  deriving DecidableEq, Repr

/-! ## Fields (R66): bit positions of the operands -/

/-- `CSSW = w[8]`; also the marker of a fixed draw in `PSTEP`. -/
def bit8Field (w : CmdWord) : Bool := w.getLsbD 8
/-- `CSPORT = w[19:16]`. -/
def csPortField (w : CmdWord) : BitVec 4 := w.extractLsb' 16 4
/-- `CSPIN = w[23:20]`. -/
def csPinField (w : CmdWord) : BitVec 4 := w.extractLsb' 20 4
/-- `SLEN = w[31:16]`. -/
def slenField (w : CmdWord) : Len := w.extractLsb' 16 16
/-- `RLEN = w[47:32]`. -/
def rlenField (w : CmdWord) : Len := w.extractLsb' 32 16
/-- `SADDR = w[95:64]`, and `DADDR` of `RBDRAIN`. -/
def saddrField (w : CmdWord) : Addr := w.extractLsb' 64 32
/-- `RADDR = w[127:96]`. -/
def raddrField (w : CmdWord) : Addr := w.extractLsb' 96 32
/-- `w[23:16]`: the byte of `RB_WRITE` and of a fixed draw (log entry 4). -/
def byteField (w : CmdWord) : Byte := w.extractLsb' 16 8
/-- `w[63:32]`: the register operand of `ERRH`, the flags set by `PSTEP` (log entry 4). -/
def regField (w : CmdWord) : Reg := w.extractLsb' 32 32
/-- `w[95:64]`: the flags cleared by `PSTEP` (log entry 4). -/
def clrField (w : CmdWord) : Reg := w.extractLsb' 64 32

/-! ## Decoding -/

/-- A word on the command port, steps 1 and 2 of the decode order (R69, R70, R71). Every word has a meaning. -/
def decodePort (w : CmdWord) : Instr :=
  match portMask (opField w) with
  | none => .reserved w
  | some m =>
    if w &&& m ≠ 0#128 then .reserved w
    else if opField w = 0x01#8 then .init (bit8Field w) (csPortField w) (csPinField w)
    else if opField w = 0x02#8 then .xfer (slenField w) (rlenField w) (saddrField w) (raddrField w)
    else if opField w = 0x03#8 then .txonly (slenField w) (saddrField w)
    else if opField w = 0x04#8 then .rxonly (rlenField w) (raddrField w)
    else if opField w = 0x05#8 then .rbdrain (saddrField w)
    else if opField w = 0x06#8 then .status
    else if opField w = 0x07#8 then .csassert
    else if opField w = 0x08#8 then .csdeassert
    else .reserved w

/-- The bits an internal word must leave 0, by its identifier (R73); none where there is no such identifier. The spec
gives the internal steps no operand encoding: the layout is the model's own (log entry 4). -/
def eventMask (op : Byte) : Option CmdWord :=
  if op = 0x80#8 then some 0xFFFFFFFFFFFFFFFFFFFFFFFFFFFFFF00#128
  else if op = 0x81#8 then some 0xFFFFFFFFFFFFFFFFFFFFFFFFFFFFFF00#128
  else if op = 0x82#8 then some 0xFFFFFFFF0000000000000000FF00FE00#128
  else if op = 0x83#8 then some 0xFFFFFFFFFFFFFFFFFFFFFFFFFFFFFF00#128
  else if op = 0xC0#8 then some 0xFFFFFFFFFFFFFFFFFFFFFFFFFF00FF00#128
  else if op = 0xC1#8 then some 0xFFFFFFFFFFFFFFFFFFFFFFFFFF00FE00#128
  else if op = 0xC2#8 then some 0xFFFFFFFFFFFFFFFFFFFFFFFFFFFFFF00#128
  else if op = 0xC3#8 then some 0xFFFFFFFFFFFFFFFFFFFFFFFFFFFFFF00#128
  else if op = 0xC4#8 then some 0xFFFFFFFFFFFFFFFFFFFFFFFFFFFFFF00#128
  else if op = 0xC5#8 then some 0xFFFFFFFFFFFFFFFFFFFFFFFFFFFFFF00#128
  else if op = 0xC6#8 then some 0xFFFFFFFFFFFFFFFF00000000FFFFFF00#128
  else none

/-- An internal word of the schedule (R73). -/
def decodeEvent (w : CmdWord) : Except DecodeError Instr :=
  match eventMask (opField w) with
  | none => .error (.unknownEvent (opField w))
  | some m =>
    if w &&& m ≠ 0#128 then .error .eventReservedBit
    else if opField w = 0x80#8 then .ok .irq
    else if opField w = 0x81#8 then .ok .tick
    else if opField w = 0x82#8 then
      if bit8Field w then .ok (.pstep (regField w) (clrField w) (some (byteField w)))
      else if byteField w = 0#8 then .ok (.pstep (regField w) (clrField w) none)
      else .error .eventReservedBit
    else if opField w = 0x83#8 then .ok .poll
    else if opField w = 0xC0#8 then .ok (.rbWrite (byteField w))
    else if opField w = 0xC1#8 then .ok (.csInit (bit8Field w) (csPortField w) (csPinField w))
    else if opField w = 0xC2#8 then .ok .csAssertP
    else if opField w = 0xC3#8 then .ok .csDeassertP
    else if opField w = 0xC4#8 then .ok .finalize
    else if opField w = 0xC5#8 then .ok .cleanup
    else if opField w = 0xC6#8 then .ok (.errh (regField w))
    else .error (.unknownEvent (opField w))

/-- A word on a channel. -/
def decodeWord (c : Channel) (w : CmdWord) : Except DecodeError Instr :=
  match c with
  | .port => .ok (decodePort w)
  | .event => decodeEvent w

/-- `n` bytes of a number, byte 0 (bits 7:0) first (R50: the command word is little-endian on a byte-wide port). -/
def bytesOf : Nat → Nat → List Byte
  | 0, _ => []
  | n + 1, w => BitVec.ofNat 8 w :: bytesOf n (w / 256)

/-- The number that bytes in little-endian order hold (R50). -/
def numberOf : List Byte → Nat
  | [] => 0
  | b :: bs => b.toNat + 256 * numberOf bs

/-- Any byte string on a channel: the first word's instruction and the bytes after it. -/
def decodeBytes (c : Channel) (bs : List Byte) : Except DecodeError (Instr × List Byte) :=
  if bs.length < 16 then .error .truncated
  else
    match decodeWord c (BitVec.ofNat 128 (numberOf (bs.take 16))) with
    | .ok i => .ok (i, bs.drop 16)
    | .error e => .error e

/-! ## Encoding -/

/-- A Boolean as one bit. -/
def bitOf (b : Bool) : BitVec 1 := BitVec.ofBool b

/-- The channel an instruction's word is presented on. -/
def channelOf (i : Instr) : Channel := if i.isCommand then .port else .event

/-- The 128-bit word of an instruction, its most significant field first (R66, R69, R73; log entry 4). -/
def encode : Instr → CmdWord
  | .init sw port pin => 0#104 ++ pin ++ port ++ 0#7 ++ bitOf sw ++ 0x01#8
  | .xfer sl rl sa ra => ra ++ sa ++ 0#16 ++ rl ++ sl ++ 0#8 ++ 0x02#8
  | .txonly sl sa => 0#32 ++ sa ++ 0#32 ++ sl ++ 0#8 ++ 0x03#8
  | .rxonly rl ra => ra ++ 0#32 ++ 0#16 ++ rl ++ 0#16 ++ 0#8 ++ 0x04#8
  | .rbdrain da => 0#32 ++ da ++ 0#56 ++ 0x05#8
  | .status => 0#120 ++ 0x06#8
  | .csassert => 0#120 ++ 0x07#8
  | .csdeassert => 0#120 ++ 0x08#8
  | .irq => 0#120 ++ 0x80#8
  | .tick => 0#120 ++ 0x81#8
  | .pstep set clr none => 0#32 ++ clr ++ set ++ 0#24 ++ 0x82#8
  | .pstep set clr (some b) => 0#32 ++ clr ++ set ++ 0#8 ++ b ++ 0#7 ++ 1#1 ++ 0x82#8
  | .poll => 0#120 ++ 0x83#8
  | .rbWrite b => 0#104 ++ b ++ 0#8 ++ 0xC0#8
  | .csInit sw port pin => 0#104 ++ pin ++ port ++ 0#7 ++ bitOf sw ++ 0xC1#8
  | .csAssertP => 0#120 ++ 0xC2#8
  | .csDeassertP => 0#120 ++ 0xC3#8
  | .finalize => 0#120 ++ 0xC4#8
  | .cleanup => 0#120 ++ 0xC5#8
  | .errh sr0 => 0#64 ++ sr0 ++ 0#24 ++ 0xC6#8
  | .reserved w => w

/-- The move that schedules an instruction. -/
def moveOf (i : Instr) : Move := .word (channelOf i) (encode i)

/-! ## The opcode table's numbering -/

/-- A row of the table that is narrower than a command word and whose low byte is an internal identifier is an internal
step (R73); every other row is a word of the port. -/
def tableChannel (nbits w : Nat) : Channel :=
  if nbits < 128 && (eventMask (BitVec.ofNat 8 w)).isSome then .event else .port

/-- The 128-bit word of a table row's bits, 0 above them. -/
def tableWord (nbits w : Nat) : CmdWord := BitVec.ofNat 128 (w % 2 ^ nbits)

/-- The instruction the decoder reads from a table row's bits, laid out as 16 bytes, the lowest first (R50). -/
def decodeTableWord (nbits w : Nat) : Option Instr :=
  match decodeBytes (tableChannel nbits w) (bytesOf 16 (tableWord nbits w).toNat) with
  | .ok (i, []) => some i
  | .ok (_, _ :: _) => none
  | .error _ => none

end Sys2Proof
end

