-- ==== Sys2Proof/Machine/State.lean ====
section
/-! DEFINITION. The state of the machine as plain data: the transaction context (R20 to R29, R36 to R39), the consumed
peripheral registers (R30 to R32), the tick counter (R41), caller memory (R45), the event history (R57), the parameters (R7)
and the model's own schedule; and the state after reset (R44, R170). -/
namespace Sys2Proof.Machine

/-! ## The named values -/

/-- `ctx.state`, 3 bits: the six states and the two reserved values (R22). -/
inductive TState where
  | ready
  | busyTx
  | busyRx
  | busyTxRx
  | error
  | abort
  | reserved6
  | reserved7
  deriving DecidableEq, Repr

/-- `ctx.cmd_phase` (R21). -/
inductive CmdPhase where
  | idle
  | wait
  deriving DecidableEq, Repr

/-- `ctx.cmd_kind`, 2 bits: the transfer command being waited for (R21). -/
inductive CmdKind where
  | none
  | xfer
  | txonly
  | rxonly
  deriving DecidableEq, Repr

/-- The error kinds, in the order of their 3-bit codes 0 to 7 (R145). -/
inductive ErrKind where
  | none
  | busOverrun
  | modeFault
  | frameError
  | underrun
  | timeout
  | bufferOverrun
  | invalidRequest
  deriving DecidableEq, Repr

/-- `ctx.cs_out` (R37). -/
inductive CsLevel where
  | undriven
  | low
  | high
  deriving DecidableEq, Repr

/-- The nine pending flags of `P.SR` (R30). -/
inductive SrFlag where
  | rxp
  | txp
  | dxp
  | eot
  | udr
  | ovr
  | fre
  | modf
  | susp
  deriving DecidableEq, Repr

/-- The observable actions of the history (R57). -/
inductive Event where
  | csLow
  | csHigh
  | start
  | txByte (b : Byte)
  | rxByte (b : Byte)
  | memRd (a : Addr) (v : Byte)
  | memWr (a : Addr) (v : Byte)
  | clear (f : SrFlag)
  | release (kind : CmdKind) (result : Bool)
  | tick
  deriving DecidableEq, Repr

/-! ## The parts of the state -/

/-- The fields of the transaction context that belong to the transfer, its outcome and the driver (R22 to R29, R38, R39). -/
structure Ctx where
  /-- `ctx.state` (R22). -/
  state : TState
  /-- `ctx.tx_base` (R24). -/
  txBase : Addr
  /-- `ctx.tx_idx` (R24). -/
  txIdx : Len
  /-- `ctx.tx_remaining` (R26). -/
  txRemaining : Len
  /-- `ctx.rx_present` (R25). -/
  rxPresent : Bool
  /-- `ctx.rx_base` (R25). -/
  rxBase : Addr
  /-- `ctx.rx_idx` (R25). -/
  rxIdx : Len
  /-- `ctx.rx_remaining` (R26). -/
  rxRemaining : Len
  /-- `ctx.tx_done` (R27). -/
  txDone : Bool
  /-- `ctx.rx_done` (R27). -/
  rxDone : Bool
  /-- `ctx.xfer_err` (R28). -/
  xferErr : Bool
  /-- `ctx.last_err` (R28). -/
  lastErr : ErrKind
  /-- `ctx.error_count` (R29). -/
  errorCount : Count
  /-- `ctx.timeout_count` (R29). -/
  timeoutCount : Count
  /-- `ctx.inited` (R38). -/
  inited : Bool
  /-- `ctx.t0` (R39). -/
  t0 : Count
  /-- `ctx.result` (R39). -/
  result : Bool
  deriving DecidableEq, Repr

/-- The ring buffer (R36). -/
structure Ring where
  /-- `ctx.rb_mem[0 .. S-1]`. -/
  slots : List Byte
  /-- `ctx.head`. -/
  head : RbIdx
  /-- `ctx.tail`. -/
  tail : RbIdx
  /-- `ctx.bovr`. -/
  bovr : Bool
  deriving DecidableEq, Repr

/-- The chip-select line (R37). -/
structure ChipSelect where
  /-- `ctx.cs_sw`. -/
  sw : Bool
  /-- `ctx.cs_port`. -/
  port : BitVec 4
  /-- `ctx.cs_pin`. -/
  pin : BitVec 4
  /-- `ctx.cs_clk`. -/
  clk : Bool
  /-- `ctx.cs_out`. -/
  out : CsLevel
  deriving DecidableEq, Repr

/-- The command port and the caller-side sequencer (R21, R65, R72). -/
structure Sequencer where
  /-- `ctx.cmd_phase`. -/
  phase : CmdPhase
  /-- `ctx.cmd_kind`. -/
  kind : CmdKind
  /-- The response word of the last command that completed (R72; log entry 8). -/
  response : CmdWord
  deriving DecidableEq, Repr

/-- The consumed peripheral registers; `P.CR.CSTART` is a write-only trigger that reads 0, so it holds nothing
(R30 to R32). -/
structure Periph where
  /-- `P.SR`. -/
  sr : Reg
  /-- `P.IE`. -/
  ie : Reg
  /-- `P.CR.SPE`. -/
  spe : Bool
  /-- `P.TSIZE`. -/
  tsize : Len
  deriving DecidableEq, Repr

/-- Everything the spec gives the machine, and the model's own fields (marked so). -/
structure State where
  /-- The parameters of R7: written by no step (log entry 1). -/
  par : Params
  /-- The transaction context. -/
  ctx : Ctx
  /-- The ring buffer. -/
  ring : Ring
  /-- The chip-select line. -/
  cs : ChipSelect
  /-- The command port and its sequencer. -/
  seq : Sequencer
  /-- The peripheral registers. -/
  p : Periph
  /-- `T.tick` (R41). -/
  tick : Count
  /-- Caller memory, in canonical form (R45; log entry 7). -/
  mem : List Host.Cell
  /-- The event history, oldest first (R57). -/
  history : List Event
  /-- The draw a `PERIPH` step has fixed for the next `P.readRX()` (R33, R75). -/
  rxPinned : Option Byte
  /-- The model's own: how many bytes have been read, the index of the next free draw (log entry 6). -/
  rxDraws : Nat
  /-- The model's own: the outside world's schedule, the next move first (log entry 2). -/
  agenda : List Move
  /-- The model's own: how many moves the free schedule has supplied (log entry 2). -/
  freeMoves : Nat
  /-- `CALLER` has no further step: it accessed memory outside `MEM_OK` (R52, I21; log entry 5). -/
  callerStuck : Bool
  /-- `IRQ` has no further step: it accessed memory outside `MEM_OK` (R52, I21; log entry 5). -/
  irqStuck : Bool
  /-- The recorded fault of the model of R23 (I13 to I15; log entry 9). -/
  modelFault : Bool
  deriving DecidableEq, Repr

/-- Why the machine stops. Every one of these says that the scheduled agent has no such step in this state. All are safe:
the model stops where the spec gives no step, so nothing false can be proved from a next state. -/
inductive Fault where
  /-- A word on the port while `ctx.cmd_phase = WAIT`: the host's duty (R65, I22). Raised by every command. Safe. -/
  | commandWhileWaiting
  /-- `POLL` while `ctx.cmd_phase = IDLE`: it is enabled only in `WAIT` (R116). Raised by `POLL`. Safe. -/
  | pollWhileIdle
  /-- `IRQ` while the interrupt line is low: no invocation is enabled (R130, R144). Raised by `IRQ`. Safe. -/
  | irqNotEnabled
  /-- A step of `CALLER` after it got stuck on an access outside `MEM_OK` (R52, I21). Raised by every command and
  by `POLL`. Safe. -/
  | callerHasNoStep
  /-- A step of `IRQ` after it got stuck on an access outside `MEM_OK` (R52, I21). Raised by `IRQ`. Safe. -/
  | irqHasNoStep
  /-- The platform's own store to an address with no memory (log entry 3). Raised by the schedule's `store`. Safe. -/
  | storeWithoutMemory
  deriving DecidableEq, Repr

/-- Why a move has no meaning. -/
inductive Refusal where
  /-- An instruction that has no meaning yet, by its mnemonic. No arm of `exec` raises it. Safe. -/
  | notModelled (mnemonic : String)
  /-- A schedule word that is no internal identifier or sets a bit outside its operands (R73; log entry 4). Raised by
  `step`. Safe. -/
  | undecodable (e : DecodeError)
  deriving DecidableEq, Repr

/-! ## Reset -/

/-- The state right after reset with parameters `par` (R44, R170). The fields R44 leaves open (`tx_base`, `rx_base`, `t0`,
`rb_mem`, `P.SR`, `T.tick`) are 0 here by design choice (log entry 10), and so are the model's own fields. -/
def State.resetWith (par : Params) : State where
  par := par
  ctx :=
    { state := .ready, txBase := 0#32, txIdx := 0#16, txRemaining := 0#16
      rxPresent := false, rxBase := 0#32, rxIdx := 0#16, rxRemaining := 0#16
      txDone := false, rxDone := false, xferErr := false, lastErr := .none
      errorCount := 0#32, timeoutCount := 0#32, inited := false, t0 := 0#32, result := false }
  ring := { slots := List.replicate (2 ^ par.rbK) 0#8, head := 0#16, tail := 0#16, bovr := false }
  cs := { sw := false, port := 0#4, pin := 0#4, clk := false, out := .undriven }
  seq := { phase := .idle, kind := .none, response := 0#128 }
  p := { sr := 0#32, ie := 0#32, spe := false, tsize := 0#16 }
  tick := 0#32
  mem := []
  history := []
  rxPinned := none
  rxDraws := 0
  agenda := []
  freeMoves := 0
  callerStuck := false
  irqStuck := false
  modelFault := false

/-- The machine right after reset, with the reference parameters (R44, R170; log entry 1). -/
def State.reset : State := State.resetWith Params.reference

end Sys2Proof.Machine
end

