-- ==== Sys2Proof/Machine/Flags.lean ====
section
/-! DEFINITION. The flag registers: bit positions, pending and enabled flags, the interrupt line, the cause tests of the
dispatcher, and the codes of the named values (R22, R30, R31, R34, R37, R42, R114, R131, R145, R151). -/
namespace Sys2Proof.Machine

/-- The position of a flag in `P.SR` and of its enable in `P.IE` (R30, R31). -/
def flagBit : SrFlag → Nat
  | .rxp => 0
  | .txp => 1
  | .dxp => 2
  | .eot => 3
  | .udr => 5
  | .ovr => 6
  | .fre => 8
  | .modf => 9
  | .susp => 11

/-- The register value with that one flag set. -/
def flagMask (f : SrFlag) : Reg := 1#32 <<< flagBit f

/-- Whether a flag is set in a register. -/
def hasFlag (f : SrFlag) (r : Reg) : Bool := r.getLsbD (flagBit f)

/-- A register with one flag set to 0. -/
def dropFlag (f : SrFlag) (r : Reg) : Reg := r &&& ~~~ flagMask f

/-- The flags the block can clear in `P.SR` (R34). -/
def clearable : SrFlag → Bool
  | .rxp => false
  | .txp => false
  | .dxp => false
  | .eot => true
  | .udr => true
  | .ovr => true
  | .fre => true
  | .modf => true
  | .susp => true

/-- The eight enable bits of `P.IE`: every other bit is reserved and reads 0 (R31). -/
def ieBits : Reg := 0x0000036F#32

/-- `cause := P.IE AND P.SR` (R130). -/
def causeOf (s : State) : Reg := s.p.ie &&& s.p.sr

/-- The interrupt request line, level-sensitive (R42). -/
def irqLine (s : State) : Bool := causeOf s != 0#32

/-- The duplex-ready condition (R131). -/
def duplexReady (cause : Reg) : Bool := hasFlag .dxp cause && !hasFlag .ovr cause && !hasFlag .udr cause

/-- The interrupt sources enabled at the start of a transfer (R114). No transfer starts in another state. -/
def ieSet : TState → Reg
  | .ready => 0#32
  | .busyTx => 0x0000036A#32
  | .busyRx => 0x00000369#32
  | .busyTxRx => 0x0000036F#32
  | .error => 0#32
  | .abort => 0#32
  | .reserved6 => 0#32
  | .reserved7 => 0#32

/-- The error flags of a snapshot, in the handler's order (R149, R151). -/
def errFlags (sr0 : Reg) : List SrFlag := [SrFlag.ovr, .modf, .fre, .udr].filter (fun f => hasFlag f sr0)

/-- The error kind of a hardware error flag; the other flags are no error (R145). -/
def errKindOf : SrFlag → ErrKind
  | .rxp => .none
  | .txp => .none
  | .dxp => .none
  | .eot => .none
  | .udr => .underrun
  | .ovr => .busOverrun
  | .fre => .frameError
  | .modf => .modeFault
  | .susp => .none

/-- The 3-bit code of an error kind (R145). -/
def errCode : ErrKind → BitVec 3
  | .none => 0#3
  | .busOverrun => 1#3
  | .modeFault => 2#3
  | .frameError => 3#3
  | .underrun => 4#3
  | .timeout => 5#3
  | .bufferOverrun => 6#3
  | .invalidRequest => 7#3

/-- The 3-bit code of `ctx.state` (R22). -/
def stateCode : TState → BitVec 3
  | .ready => 0#3
  | .busyTx => 1#3
  | .busyRx => 2#3
  | .busyTxRx => 3#3
  | .error => 4#3
  | .abort => 5#3
  | .reserved6 => 6#3
  | .reserved7 => 7#3

/-- The 2-bit code of `cs_out` (R74). -/
def csCode : CsLevel → BitVec 2
  | .undriven => 0#2
  | .low => 1#2
  | .high => 2#2

/-- The values `ctx.state` may hold at a step boundary (R23). -/
def legalState : TState → Bool
  | .ready => true
  | .busyTx => true
  | .busyRx => true
  | .busyTxRx => true
  | .error => false
  | .abort => false
  | .reserved6 => false
  | .reserved7 => false

/-- A Busy state (R13). -/
def isBusy : TState → Bool
  | .ready => false
  | .busyTx => true
  | .busyRx => true
  | .busyTxRx => true
  | .error => false
  | .abort => false
  | .reserved6 => false
  | .reserved7 => false

/-- The kinds `ctx.last_err` may hold: 6 and 7 are reported elsewhere only (R145, I15). -/
def legalLastErr : ErrKind → Bool
  | .none => true
  | .busOverrun => true
  | .modeFault => true
  | .frameError => true
  | .underrun => true
  | .timeout => true
  | .bufferOverrun => false
  | .invalidRequest => false

end Sys2Proof.Machine
end

