-- ==== Sys2Proof/Machine/Operands.lean ====
section
/-! DEFINITION. Operand forms: caller-memory addresses and ranges, ring-buffer indices, the choice of direction and size of
a transfer, and the response words (R24, R25, R36, R51, R72, R74, R85, R109, R115). -/
namespace Sys2Proof.Machine

/-! ## Caller memory -/

/-- What a byte of caller memory reads as where the list holds no entry for it (log entry 7). -/
def unlistedByte : Byte := 0#8

/-- `MEM_OK` (R53): the platform has memory at the address. -/
def memAdmits (par : Params) (a : Addr) : Bool :=
  par.memOk.any (fun r => decide (r.base ≤ a.toNat) && decide (a.toNat < r.base + r.size))

/-- A range of `n` bytes from `a` passes address `2^32` (R51). -/
def passesTop (a : Addr) (n : Len) : Bool := decide (4294967296 < a.toNat + n.toNat)

/-- `ctx.tx_base + ctx.tx_idx`, the address of the next send byte (R24). -/
def txAddr (c : Ctx) : Addr := c.txBase + c.txIdx.setWidth 32

/-- `ctx.rx_base + ctx.rx_idx`, the address of the next received byte (R25). -/
def rxAddr (c : Ctx) : Addr := c.rxBase + c.rxIdx.setWidth 32

/-! ## The ring buffer (R36, R85) -/

/-- `S = 2^RB_K`, the number of slots. -/
def rbSize (par : Params) : Nat := 2 ^ par.rbK

/-- `M = S - 1`, the index mask. -/
def rbMask (par : Params) : RbIdx := BitVec.ofNat 16 (rbSize par - 1)

/-- `(i + 1) AND M`. -/
def rbNext (par : Params) (i : RbIdx) : RbIdx := (i + 1#16) &&& rbMask par

/-- `count := (ctx.head - ctx.tail) AND M`. -/
def rbCount (par : Params) (r : Ring) : RbIdx := (r.head - r.tail) &&& rbMask par

/-- The slot of the `k`-th unread byte, `(ctx.tail + k) AND M` (R88). -/
def rbSlot (par : Params) (r : Ring) (k : Nat) : RbIdx := (r.tail + BitVec.ofNat 16 k) &&& rbMask par

/-- `ctx.rb_mem[i]`. An index is masked, so it names one of the `S` slots. -/
def rbRead (r : Ring) (i : RbIdx) : Byte := r.slots.getD i.toNat unlistedByte

/-- The unread bytes in order, the ones a drain copies (R88). -/
def rbUnread (par : Params) (r : Ring) : List Byte :=
  (List.range (rbCount par r).toNat).map (fun k => rbRead r (rbSlot par r k))

/-! ## Starting a transfer -/

/-- `target(sl, rl)` (R109). -/
def targetState (sl rl : Len) : TState :=
  if rl = 0#16 then .busyTx else if sl = 0#16 then .busyRx else .busyTxRx

/-- The larger of two lengths. -/
def maxLen (a b : Len) : Len := if a.toNat < b.toNat then b else a

/-- `tsize(state, sl, rl)` (R115). No transfer starts in another state. -/
def tsizeOf (st : TState) (sl rl : Len) : Len :=
  match st with
  | .ready => 0#16
  | .busyTx => sl
  | .busyRx => rl
  | .busyTxRx => maxLen sl rl
  | .error => 0#16
  | .abort => 0#16
  | .reserved6 => 0#16
  | .reserved7 => 0#16

/-- `START` is legal: none of the five conditions of R108 holds. -/
def startLegal (s : State) (sl : Len) (sa : Addr) (rl : Len) (ra : Addr) : Bool :=
  s.ctx.inited && s.ctx.state == .ready && !(sl == 0#16 && rl == 0#16)
    && !(sl != 0#16 && passesTop sa sl)
    && !(rl != 0#16 && !s.par.rxViaRb && passesTop ra rl)

/-- `(T.tick - ctx.t0) mod 2^32 > TIMEOUT_TICKS` (R116). -/
def timedOut (s : State) : Bool := decide (s.par.timeoutTicks < (s.tick - s.ctx.t0).toNat)

/-! ## Response words -/

/-- `RESULT = r[0]`, `CODE = r[10:8]`, `COUNT = r[31:16]`, every other bit 0 (R72). -/
def responseWord (result : Bool) (code : ErrKind) (count : RbIdx) : CmdWord :=
  0#96 ++ count ++ 0#5 ++ errCode code ++ 0#7 ++ bitOf result

/-- The low 16 bits of the `STATUS` response, from `r[15]` down to `r[0]` (R74). -/
def statusLow (s : State) : BitVec 16 :=
  0#1 ++ bitOf s.cs.sw ++ csCode s.cs.out ++ bitOf s.ctx.inited ++ errCode s.ctx.lastErr ++ bitOf s.ring.bovr
    ++ bitOf s.ctx.xferErr ++ bitOf s.ctx.rxDone ++ bitOf s.ctx.txDone ++ stateCode s.ctx.state ++ 1#1

/-- The `STATUS` response (R74). -/
def statusWord (s : State) : CmdWord :=
  s.ctx.timeoutCount ++ s.ctx.errorCount ++ rbCount s.par s.ring ++ s.ctx.rxRemaining ++ s.ctx.txRemaining ++ statusLow s

end Sys2Proof.Machine
end

