-- ==== Sys2Proof/Machine/Ops.lean ====
section
/-! DEFINITION. The named operations: caller memory, the event history, responses, the peripheral's registers, chip select,
the ring buffer, the byte moves, starting a transfer, its exits, the Error/Disable Handler, the dispatcher invocation and
the agents' gates. Every instruction is a call of these. -/
namespace Sys2Proof.Machine

/-! ## Caller memory as data (R45, R52): sorted cells, none equal to what an unlisted address reads as -/

/-- The byte at an address. -/
def cellRead : List Host.Cell → Nat → Byte
  | [], _ => unlistedByte
  | (b, w) :: rest, a => if a = b then w else cellRead rest a

/-- Put a byte at an address, keeping the cells sorted and canonical. -/
def cellWrite : List Host.Cell → Nat → Byte → List Host.Cell
  | [], a, v => if v = unlistedByte then [] else [(a, v)]
  | (b, w) :: rest, a, v =>
    if a < b then (if v = unlistedByte then (b, w) :: rest else (a, v) :: (b, w) :: rest)
    else if a = b then (if v = unlistedByte then rest else (a, v) :: rest)
    else (b, w) :: cellWrite rest a v

/-- The canonical form of caller memory: addresses strictly rising and below `2^32`, no entry equal to what an unlisted
address reads as. -/
abbrev Memory.wf (m : List Host.Cell) : Prop :=
  m.Pairwise (fun c d => c.1 < d.1) ∧ ∀ c ∈ m, c.1 < 4294967296 ∧ c.2 ≠ unlistedByte

/-- The byte of caller memory at an address, whether or not an agent may access it. -/
def byteAt (s : State) (a : Addr) : Byte := cellRead s.mem a.toNat

/-- The state with a byte of caller memory replaced, and nothing else. -/
def setByte (s : State) (a : Addr) (v : Byte) : State := { s with mem := cellWrite s.mem a.toNat v }

/-! ## History and responses -/

/-- `emit(e)` (R57). -/
def emit (e : Event) (s : State) : State := { s with history := s.history ++ [e] }

/-- A command completes with a response word and its Boolean (R72). -/
def respondWord (w : CmdWord) (result : Bool) (s : State) : State :=
  { s with seq := { s.seq with response := w }, ctx := { s.ctx with result := result } }

/-- `respond(RESULT, CODE, COUNT)` (R72). -/
def respond (result : Bool) (code : ErrKind) (count : RbIdx) (s : State) : State :=
  respondWord (responseWord result code count) result s

/-- `raise InvalidRequest`: `RESULT = 0`, `CODE = 7`, and `ctx.result` is the only field of the block written (R147). -/
def invalidRequest (s : State) : State := respond false .invalidRequest 0#16 s

/-! ## Caller memory as the agents access it: none where the platform has no memory, the agent then has no step (R52) -/

/-- `MemRead(a, 1)` with its event. -/
def memRead (a : Addr) (s : State) : Option (Byte × State) :=
  if memAdmits s.par a then some (byteAt s a, emit (.memRd a (byteAt s a)) s) else none

/-- `MemWrite(a, 1, v)` with its event. -/
def memWrite (a : Addr) (v : Byte) (s : State) : Option State :=
  if memAdmits s.par a then some (emit (.memWr a v) (setByte s a v)) else none

/-- Store bytes at increasing addresses from `a` (R50, R88). -/
def memWriteAll : Addr → List Byte → State → Option State
  | _, [], s => some s
  | a, v :: vs, s =>
    match memWrite a v s with
    | none => none
    | some s' => memWriteAll (a + 1#32) vs s'

/-! ## The peripheral's registers -/

/-- `P.clear(f)` (R34). -/
def clearFlag (f : SrFlag) (s : State) : State :=
  { s with p := { s.p with sr := if clearable f then dropFlag f s.p.sr else s.p.sr } }

/-- `P.clear(f); emit(Clear(f))`. -/
def clearFlagEv (f : SrFlag) (s : State) : State := emit (.clear f) (clearFlag f s)

/-- The same for a list of flags, in order. -/
def clearFlagsEv : List SrFlag → State → State
  | [], s => s
  | f :: fs, s => clearFlagsEv fs (clearFlagEv f s)

/-- `P.IE <- v`: reserved bits are written 0 (R31). -/
def setIe (v : Reg) (s : State) : State := { s with p := { s.p with ie := v &&& ieBits } }

/-- `P.IE.f <- 0`. -/
def disableSource (f : SrFlag) (s : State) : State := { s with p := { s.p with ie := dropFlag f s.p.ie } }

/-- `P.CR.SPE <- v` (R32). -/
def setSpe (v : Bool) (s : State) : State := { s with p := { s.p with spe := v } }

/-- `P.TSIZE <- v` (R32). -/
def setTsize (v : Len) (s : State) : State := { s with p := { s.p with tsize := v } }

/-- `P.CR.CSTART <- 1; emit(Start)`: a trigger that holds nothing (R32). -/
def triggerStart (s : State) : State := emit .start s

/-- `P.writeTX(b)` (R33). -/
def writeTx (b : Byte) (s : State) : State := emit (.txByte b) s

/-- The value `P.readRX()` returns: the draw a `PERIPH` step fixed, else a free value (R33, R75; log entry 6). -/
def rxDraw (s : State) : Byte :=
  match s.rxPinned with
  | some b => b
  | none => Config.freeRx s.rxDraws

/-- `P.readRX()`: the draw is consumed, with its event; no flag changes (R33, R52). -/
def readRx (s : State) : State :=
  emit (.rxByte (rxDraw s)) { s with rxPinned := none, rxDraws := s.rxDraws + 1 }

/-! ## Chip select (R95 to R98) -/

/-- The line is driven to a level, with the level's event. -/
def driveCs (l : CsLevel) (e : Event) (s : State) : State := emit e { s with cs := { s.cs with out := l } }

/-- `CS.assert()` (R97). -/
def csAssert (s : State) : State :=
  if s.cs.sw = true ∧ s.cs.out ≠ .low then driveCs .low .csLow s else s

/-- `CS.deassert()` (R98). -/
def csDeassert (s : State) : State :=
  if s.cs.sw = true ∧ s.cs.out ≠ .high then driveCs .high .csHigh s else s

/-- `CS.init(sw, port, pin)` (R96). -/
def csConfigure (sw : Bool) (port pin : BitVec 4) (s : State) : State :=
  if sw = true then
    driveCs .high .csHigh { s with cs := { s.cs with sw := true, port := port, pin := pin, clk := true } }
  else
    { s with cs := { s.cs with sw := false, port := 0#4, pin := 0#4, out := .undriven } }

/-! ## Ring buffer (R86 to R88) -/

/-- `RB.overrun()` (R87). -/
def rbOverrun (par : Params) (r : Ring) : Ring :=
  match par.ovrPolicy with
  | .dropOldest => { r with bovr := true, tail := rbNext par r.tail }
  | .literal => { r with bovr := true }

/-- The slot written and the head advanced, before the overrun test (R86). -/
def rbPush (par : Params) (b : Byte) (r : Ring) : Ring :=
  { r with slots := r.slots.set r.head.toNat b, head := rbNext par r.head }

/-- `RB.write(b)` on the ring (R86, R87). -/
def rbWriteRing (par : Params) (b : Byte) (r : Ring) : Ring :=
  if (rbPush par b r).head = (rbPush par b r).tail then rbOverrun par (rbPush par b r) else rbPush par b r

/-- `RB.write(b)`. -/
def rbWriteOp (b : Byte) (s : State) : State := { s with ring := rbWriteRing s.par b s.ring }

/-- `ctx.tail <- ctx.head` (R88). -/
def rbEmpty (s : State) : State := { s with ring := { s.ring with tail := s.ring.head } }

/-- `RB.drain(dest)` (R88): the unread bytes stored in order, then the ring emptied; none where an address has no memory. -/
def rbDrain (dest : Addr) (s : State) : Option State :=
  (memWriteAll dest (rbUnread s.par s.ring) s).map rbEmpty

/-! ## Byte moves (R134) -/

/-- The transmit cursor after a byte, and the sources disabled where the count has reached 0. -/
def txAdvance (s : State) : State :=
  let s1 := { s with ctx := { s.ctx with txIdx := s.ctx.txIdx + 1#16, txRemaining := s.ctx.txRemaining - 1#16 } }
  if s1.ctx.txRemaining = 0#16 then disableSource .dxp (disableSource .txp s1) else s1

/-- `tx_move()`. -/
def txMove (s : State) : Option State :=
  (memRead (txAddr s.ctx) s).map (fun r => txAdvance (writeTx r.1 r.2))

/-- Where the received byte goes: the ring buffer, caller storage, or nowhere (R134). -/
def rxDeliver (v : Byte) (s : State) : Option State :=
  if s.par.rxViaRb = true then some (rbWriteOp v s)
  else if s.ctx.rxPresent = true then memWrite (rxAddr s.ctx) v s
  else some s

/-- The receive cursor after a byte, and the sources disabled where the count has reached 0. -/
def rxAdvance (s : State) : State :=
  let s1 := { s with ctx := { s.ctx with rxIdx := s.ctx.rxIdx + 1#16, rxRemaining := s.ctx.rxRemaining - 1#16 } }
  if s1.ctx.rxRemaining = 0#16 then disableSource .dxp (disableSource .rxp s1) else s1

/-- `rx_move()`. -/
def rxMove (s : State) : Option State := (rxDeliver (rxDraw s) (readRx s)).map rxAdvance

/-- `[tx_move if tx > 0]` (R140). -/
def txMoveIf (s : State) : Option State := if s.ctx.txRemaining = 0#16 then some s else txMove s

/-- `[rx_move if rx > 0]` (R140). -/
def rxMoveIf (s : State) : Option State := if s.ctx.rxRemaining = 0#16 then some s else rxMove s

/-! ## The life of a transfer (R110, R116 to R118) -/

/-- `START(kind, sl, sa, rl, ra)` after rule R108 has passed (R110). -/
def startTransfer (kind : CmdKind) (sl : Len) (sa : Addr) (rl : Len) (ra : Addr) (s : State) : State :=
  let s1 := csAssert s
  let s2 :=
    { s1 with
      ctx :=
        { s1.ctx with
          txBase := sa, txIdx := 0#16, txRemaining := sl
          rxPresent := rl != 0#16 && !s1.par.rxViaRb
          rxBase := ra, rxIdx := 0#16, rxRemaining := rl
          txDone := sl == 0#16, rxDone := rl == 0#16
          xferErr := false, state := targetState sl rl } }
  let s3 := setIe (ieSet (targetState sl rl)) (setSpe true (setTsize (tsizeOf (targetState sl rl) sl rl) s2))
  let s4 := triggerStart s3
  { s4 with ctx := { s4.ctx with t0 := s4.tick }, seq := { s4.seq with phase := .wait, kind := kind } }

/-- `START` with its legality test (R108, R110). -/
def start (kind : CmdKind) (sl : Len) (sa : Addr) (rl : Len) (ra : Addr) (s : State) : State :=
  if startLegal s sl sa rl ra then startTransfer kind sl sa rl ra s else invalidRequest s

/-- `release(r, c)` (R116). -/
def release (result : Bool) (code : ErrKind) (s : State) : State :=
  let s1 := emit (.release s.seq.kind result) s
  respond result code 0#16 { s1 with seq := { s1.seq with phase := .idle, kind := .none } }

/-- Case 3 of the wait, before the release: the timeout is counted and recorded (R116). -/
def countTimeout (s : State) : State :=
  { s with ctx := { s.ctx with timeoutCount := s.ctx.timeoutCount + 1#32, lastErr := .timeout } }

/-- `POLL` (R116). -/
def pollStep (s : State) : State :=
  if s.ctx.xferErr = true then release false s.ctx.lastErr s
  else if s.ctx.txDone = true ∧ s.ctx.rxDone = true then release true .none s
  else if timedOut s = true then release false .timeout (countTimeout s)
  else s

/-- `P.IE <- 0; P.CR.SPE <- 0`: every transfer interrupt source and the peripheral disabled. -/
def disableAll (s : State) : State := setSpe false (setIe 0#32 s)

/-- `ctx.state <- Ready`. -/
def toReady (s : State) : State := { s with ctx := { s.ctx with state := .ready } }

/-- `ctx.tx_done <- 1; ctx.rx_done <- 1`. -/
def setDone (s : State) : State := { s with ctx := { s.ctx with txDone := true, rxDone := true } }

/-- What `FINALIZE` reports: the peripheral is at end-of-transfer, read live (R43, R117). -/
def finalizeReports (s : State) : Bool := hasFlag .eot s.p.sr

/-- `FINALIZE` (R117). -/
def finalizeOp (s : State) : State :=
  if finalizeReports s = true then toReady (setDone (disableAll (clearFlagEv .eot (csDeassert s)))) else s

/-- `CLEANUP` (R118). -/
def cleanupOp (s : State) : State :=
  let s1 := csDeassert (disableAll s)
  toReady (if s1.par.cleanupSetsDone = true then setDone s1 else s1)

/-! ## Taking an error: the Error/Disable Handler (R149 to R151) -/

/-- `RECOVER(errs)` with the first error flag and the others (R150, R151). -/
def recover (first : SrFlag) (others : List SrFlag) (s : State) : State :=
  let s1 := { s with ctx := { s.ctx with lastErr := errKindOf first } }
  let s2 := csDeassert (setIe 0#32 (setSpe false (clearFlagsEv (first :: others) s1)))
  { s2 with ctx := { s2.ctx with state := .ready, errorCount := s2.ctx.errorCount + 1#32, xferErr := true } }

/-- `ERRH(sr0)` (R149). -/
def errorHandler (sr0 : Reg) (s : State) : State :=
  if hasFlag .susp sr0 = true ∧ hasFlag .eot sr0 = true then clearFlagEv .susp s
  else
    match errFlags sr0 with
    | [] => s
    | f :: fs => recover f fs s

/-! ## The dispatcher invocation (R130 to R140) -/

/-- Step 5 (R137). -/
def completeHandled (s : State) : State :=
  if s.ctx.txRemaining = 0#16 ∧ s.ctx.rxRemaining = 0#16 then
    (if finalizeReports s = true then finalizeOp s else cleanupOp s)
  else s

/-- Step 6, with the snapshot of the flags (R139). -/
def stepSix (sr0 : Reg) (s : State) : State := errorHandler sr0 (finalizeOp s)

/-- The whole invocation in the order of R140; none where a byte move accesses an address with no memory (R52). -/
def invocation (s : State) : Option State :=
  if duplexReady (causeOf s) = true then
    ((txMoveIf s).bind rxMoveIf).map completeHandled
  else if hasFlag .rxp (causeOf s) = true then
    (rxMoveIf s).map completeHandled
  else if hasFlag .txp (causeOf s) = true then
    (txMoveIf s).map completeHandled
  else some (stepSix s.p.sr s)

/-! ## The agents' gates -/

/-- A step that got no access to memory leaves its agent stuck, and the run goes on without it (R52, I21; log entry 5). -/
def orCallerStuck (t : Option State) (s : State) : State :=
  match t with
  | some s' => s'
  | none => { s with callerStuck := true }

/-- The same for the interrupt agent. -/
def orIrqStuck (t : Option State) (s : State) : State :=
  match t with
  | some s' => s'
  | none => { s with irqStuck := true }

/-- A command word on the port: accepted only while the caller has a step and waits for no transfer (R65, I22). -/
def onPort (f : State → State) (s : State) : Host.Outcome State Fault Refusal :=
  if s.callerStuck = true then .fault .callerHasNoStep
  else if s.seq.phase = .wait then .fault .commandWhileWaiting
  else .next (f s)

/-- Step 3 of the decode order: every command but `INIT` and `STATUS` needs `ctx.inited` (R38, R71). -/
def ifInited (f : State → State) (s : State) : State := if s.ctx.inited = true then f s else invalidRequest s

/-- `INIT`'s body after the port check (R105). -/
def initialise (sw : Bool) (port pin : BitVec 4) (s : State) : State :=
  let s1 := setTsize 0#16 (clearFlagsEv [.eot, .udr, .ovr, .fre, .modf, .susp] (disableAll s))
  let s2 :=
    { s1 with
      ctx :=
        { s1.ctx with
          state := .ready, txIdx := 0#16, rxIdx := 0#16, rxPresent := false
          txRemaining := 0#16, rxRemaining := 0#16
          txDone := false, rxDone := false, xferErr := false
          lastErr := .none, errorCount := 0#32, timeoutCount := 0#32 }
      seq := { s1.seq with kind := .none }
      ring := { s1.ring with head := 0#16, tail := 0#16, bovr := false } }
  let s3 := csConfigure sw port pin s2
  respond true .none 0#16 { s3 with ctx := { s3.ctx with inited := true } }

/-- A port number the platform has (R104). -/
def csPortValid (par : Params) (sw : Bool) (port : BitVec 4) : Bool := !(sw && decide (par.gpioPorts ≤ port.toNat))

/-- `RBDRAIN`'s body once initialised (R90, R91). -/
def drainCommand (dest : Addr) (s : State) : State :=
  if passesTop dest (rbCount s.par s.ring) = true then invalidRequest s
  else orCallerStuck ((rbDrain dest s).map (respond true .none (rbCount s.par s.ring))) s

/-- A chip-select command's body once initialised: only while `Ready` (R99, R100). -/
def csCommand (f : State → State) (s : State) : State :=
  if s.ctx.state = .ready then respond true .none 0#16 (f s) else invalidRequest s

end Sys2Proof.Machine
end

