-- ==== Sys2Proof/Machine/ChipSelectLine.lean ====
section
/-! DEFINITION. The chip-select instructions: `CSASSERT`, `CSDEASSERT`, `CS_INIT`, `CS_ASSERT_P`, `CS_DEASSERT_P`
(R96 to R100). -/
namespace Sys2Proof.Machine

/-- `CSASSERT` (R99). -/
def execCsassert (s : State) : Host.Outcome State Fault Refusal := onPort (ifInited (csCommand csAssert)) s

/-- `CSDEASSERT` (R100). -/
def execCsdeassert (s : State) : Host.Outcome State Fault Refusal := onPort (ifInited (csCommand csDeassert)) s

/-- `CS_INIT` (R96). -/
def execCsInit (sw : Bool) (port pin : BitVec 4) (s : State) : Host.Outcome State Fault Refusal :=
  .next (csConfigure sw port pin s)

/-- `CS_ASSERT_P` (R97). -/
def execCsAssertP (s : State) : Host.Outcome State Fault Refusal := .next (csAssert s)

/-- `CS_DEASSERT_P` (R98). -/
def execCsDeassertP (s : State) : Host.Outcome State Fault Refusal := .next (csDeassert s)

end Sys2Proof.Machine
end

