-- ==== Sys2Proof/Machine/Dispatcher.lean ====
section
/-! DEFINITION. The interrupt context: `IRQ` and the Error/Disable Handler `ERRH` (R130 to R140, R149). -/
namespace Sys2Proof.Machine

/-- `IRQ` (R130): one whole invocation, enabled exactly when the line is high. -/
def execIrq (s : State) : Host.Outcome State Fault Refusal :=
  if s.irqStuck = true then .fault .irqHasNoStep
  else if irqLine s = true then .next (orIrqStuck (invocation s) s)
  else .fault .irqNotEnabled

/-- `ERRH` (R149). -/
def execErrh (sr0 : Reg) (s : State) : Host.Outcome State Fault Refusal := .next (errorHandler sr0 s)

end Sys2Proof.Machine
end

