-- ==== Sys2Proof/Machine/Environment.lean ====
section
/-! DEFINITION. The steps of the two agents outside the block, `TICK` and `PSTEP` (R35, R41), and the platform's own store
to caller memory (log entry 3). -/
namespace Sys2Proof.Machine

/-- `T.tick <- (T.tick + 1) mod 2^32`, with its event (R41, R57). -/
def tickOp (s : State) : State := emit .tick { s with tick := s.tick + 1#32 }

/-- `TICK` (R41). -/
def execTick (s : State) : Host.Outcome State Fault Refusal := .next (tickOp s)

/-- The peripheral's step: flags are set, then cleared, and `rx` fixes the next draw (R35, R75). -/
def periphOp (set clr : Reg) (rx : Option Byte) (s : State) : State :=
  { s with p := { s.p with sr := (s.p.sr ||| set) &&& ~~~ clr }, rxPinned := rx <|> s.rxPinned }

/-- `PSTEP` (R35). -/
def execPstep (set clr : Reg) (rx : Option Byte) (s : State) : Host.Outcome State Fault Refusal :=
  .next (periphOp set clr rx s)

/-- The platform stores a byte in caller memory: no action of the block, so no event (log entry 3). -/
def platformStore (a : Addr) (v : Byte) (s : State) : Host.Outcome State Fault Refusal :=
  if memAdmits s.par a = true then .next (setByte s a v) else .fault .storeWithoutMemory

end Sys2Proof.Machine
end

