-- ==== Sys2Proof/Machine/Illegal.lean ====
section
/-! DEFINITION. The words the port refuses (R70). -/
namespace Sys2Proof.Machine

/-- `RESERVED` (R70): InvalidRequest, whatever the word. -/
def execReserved (_w : CmdWord) (s : State) : Host.Outcome State Fault Refusal := onPort invalidRequest s

end Sys2Proof.Machine
end

