-- ==== Sys2Proof/Machine/Init.lean ====
section
/-! DEFINITION. Initialisation and status: `INIT` and `STATUS` (R105, R113). -/
namespace Sys2Proof.Machine

/-- `INIT` (R105): an invalid port is refused with no state change (R104). -/
def execInit (sw : Bool) (port pin : BitVec 4) (s : State) : Host.Outcome State Fault Refusal :=
  onPort (fun s => if csPortValid s.par sw port = true then initialise sw port pin s else invalidRequest s) s

/-- `STATUS` (R113): the response of R74; only the response and `ctx.result` are written (log entry 8). -/
def execStatus (s : State) : Host.Outcome State Fault Refusal :=
  onPort (fun s => respondWord (statusWord s) true s) s

end Sys2Proof.Machine
end

