-- ==== Sys2Proof/Machine/RingBuffer.lean ====
section
/-! DEFINITION. The ring buffer's instructions: `RBDRAIN` and `RB_WRITE` (R86, R90). -/
namespace Sys2Proof.Machine

/-- `RBDRAIN` (R90). -/
def execRbdrain (daddr : Addr) (s : State) : Host.Outcome State Fault Refusal :=
  onPort (ifInited (drainCommand daddr)) s

/-- `RB_WRITE` (R86, R87). -/
def execRbWrite (b : Byte) (s : State) : Host.Outcome State Fault Refusal := .next (rbWriteOp b s)

end Sys2Proof.Machine
end

