-- ==== Sys2Proof/Machine/Transfer.lean ====
section
/-! DEFINITION. Transfers: `XFER`, `TXONLY`, `RXONLY`, the bounded wait `POLL`, and the exits `FINALIZE` and `CLEANUP`
(R107, R111, R112, R116 to R118). -/
namespace Sys2Proof.Machine

/-- `XFER` (R107): `START(1, SLEN, SADDR, RLEN, RADDR)`. -/
def execXfer (slen rlen : Len) (saddr raddr : Addr) (s : State) : Host.Outcome State Fault Refusal :=
  onPort (ifInited (start .xfer slen saddr rlen raddr)) s

/-- `TXONLY` (R111): `START(2, SLEN, SADDR, 0, 0)`. -/
def execTxonly (slen : Len) (saddr : Addr) (s : State) : Host.Outcome State Fault Refusal :=
  onPort (ifInited (start .txonly slen saddr 0#16 0#32)) s

/-- `RXONLY` (R112): `START(3, 0, 0, RLEN, RADDR)`. -/
def execRxonly (rlen : Len) (raddr : Addr) (s : State) : Host.Outcome State Fault Refusal :=
  onPort (ifInited (start .rxonly 0#16 0#32 rlen raddr)) s

/-- `POLL` (R116), enabled while `ctx.cmd_phase = WAIT`. -/
def execPoll (s : State) : Host.Outcome State Fault Refusal :=
  if s.callerStuck = true then .fault .callerHasNoStep
  else if s.seq.phase = .wait then .next (pollStep s)
  else .fault .pollWhileIdle

/-- `FINALIZE` (R117). -/
def execFinalize (s : State) : Host.Outcome State Fault Refusal := .next (finalizeOp s)

/-- `CLEANUP` (R118). -/
def execCleanup (s : State) : Host.Outcome State Fault Refusal := .next (cleanupOp s)

end Sys2Proof.Machine
end

