-- ==== Sys2Proof/Machine/Dispatch.lean ====
section
/-! DEFINITION. The one match that gives every instruction its meaning. -/
namespace Sys2Proof.Machine

def exec (i : Instr) (s : State) : Host.Outcome State Fault Refusal :=
  match i with
  | .init csSw csPort csPin => Sys2Proof.Machine.execInit csSw csPort csPin s
  | .xfer slen rlen saddr raddr => Sys2Proof.Machine.execXfer slen rlen saddr raddr s
  | .txonly slen saddr => Sys2Proof.Machine.execTxonly slen saddr s
  | .rxonly rlen raddr => Sys2Proof.Machine.execRxonly rlen raddr s
  | .rbdrain daddr => Sys2Proof.Machine.execRbdrain daddr s
  | .status => Sys2Proof.Machine.execStatus s
  | .csassert => Sys2Proof.Machine.execCsassert s
  | .csdeassert => Sys2Proof.Machine.execCsdeassert s
  | .irq => Sys2Proof.Machine.execIrq s
  | .tick => Sys2Proof.Machine.execTick s
  | .pstep set clr rx => Sys2Proof.Machine.execPstep set clr rx s
  | .poll => Sys2Proof.Machine.execPoll s
  | .rbWrite b => Sys2Proof.Machine.execRbWrite b s
  | .csInit sw port pin => Sys2Proof.Machine.execCsInit sw port pin s
  | .csAssertP => Sys2Proof.Machine.execCsAssertP s
  | .csDeassertP => Sys2Proof.Machine.execCsDeassertP s
  | .finalize => Sys2Proof.Machine.execFinalize s
  | .cleanup => Sys2Proof.Machine.execCleanup s
  | .errh sr0 => Sys2Proof.Machine.execErrh sr0 s
  | .reserved w => Sys2Proof.Machine.execReserved w s

end Sys2Proof.Machine
end

