-- ==== Sys2Proof/Machine/Schedule.lean ====
section
/-! DEFINITION. Scheduling (R6, R56; log entry 2): which moves are enabled, how one move of the schedule is fetched and run,
what runs when nothing is scheduled from outside, and the record of a fault of the model (R23). -/
namespace Sys2Proof.Machine

/-- The agent of an instruction has this step in this state (R56, R65, R116, R130); an internal procedure is no agent's
step. -/
def enabledStep (i : Instr) (s : State) : Bool :=
  match i with
  | .irq => irqLine s && !s.irqStuck
  | .tick => true
  | .pstep _ _ _ => true
  | .poll => s.seq.phase == .wait && !s.callerStuck
  | .rbWrite _ => false
  | .csInit _ _ _ => false
  | .csAssertP => false
  | .csDeassertP => false
  | .finalize => false
  | .cleanup => false
  | .errh _ => false
  | .init _ _ _ => s.seq.phase == .idle && !s.callerStuck
  | .xfer _ _ _ _ => s.seq.phase == .idle && !s.callerStuck
  | .txonly _ _ => s.seq.phase == .idle && !s.callerStuck
  | .rxonly _ _ => s.seq.phase == .idle && !s.callerStuck
  | .rbdrain _ => s.seq.phase == .idle && !s.callerStuck
  | .status => s.seq.phase == .idle && !s.callerStuck
  | .csassert => s.seq.phase == .idle && !s.callerStuck
  | .csdeassert => s.seq.phase == .idle && !s.callerStuck
  | .reserved _ => s.seq.phase == .idle && !s.callerStuck

/-- A value of `ctx.state` or `ctx.last_err` that no rule writes is recorded as a fault of the model, and the machine
goes on (R23, I13 to I15; log entry 9). -/
def recordModelFault (s : State) : State :=
  { s with modelFault := s.modelFault || !legalState s.ctx.state || !legalLastErr s.ctx.lastErr }

/-- Run one scheduled move: its word's instruction, or the platform's store. -/
def runMove (m : Move) (s : State) : Host.Outcome State Fault Refusal :=
  match m with
  | .word c w =>
    match decodeWord c w with
    | .ok i => exec i s
    | .error e => .refused (.undecodable e)
  | .store a v => platformStore a v s

/-- Run the move the free schedule picks: an agent's enabled step, or a store where there is memory; any other pick is
passed over, since no agent has that step. -/
def runFree (m : Move) (s : State) : Host.Outcome State Fault Refusal :=
  match m with
  | .word c w =>
    match decodeWord c w with
    | .ok i => if enabledStep i s = true then exec i s else .next s
    | .error _ => .next s
  | .store a v => if memAdmits s.par a = true then platformStore a v s else .next s

/-- The next move: the first one scheduled from outside, else a free one (R56). -/
def runNext (s : State) : Host.Outcome State Fault Refusal :=
  match s.agenda with
  | m :: rest => runMove m (recordModelFault { s with agenda := rest })
  | [] => runFree (Config.freeMove s.freeMoves) (recordModelFault { s with freeMoves := s.freeMoves + 1 })

/-- What a table row's instruction needs so that its agent has the step (log entry 2): a command the phase `IDLE`, `POLL`
the phase `WAIT`, `IRQ` a high line; the agent not stuck. What already holds is left alone. -/
def makeEnabled (i : Instr) (s : State) : State :=
  if i.isCommand then
    if s.seq.phase = .wait then { s with callerStuck := false, seq := { s.seq with phase := .idle, kind := .none } }
    else { s with callerStuck := false }
  else
    match i.agent with
    | some .caller =>
      if s.seq.phase = .wait then { s with callerStuck := false }
      else { s with callerStuck := false, seq := { s.seq with phase := .wait, kind := .xfer } }
    | some .irq =>
      if irqLine s then { s with irqStuck := false }
      else
        { s with
          irqStuck := false
          p := { s.p with ie := s.p.ie ||| flagMask .eot, sr := s.p.sr ||| flagMask .eot } }
    | some .periph => s
    | some .tick => s
    | none => s

/-- A table row's word scheduled as the next move, its agent having that step. -/
def scheduleTableWord (s : State) (nbits w : Nat) : State :=
  let c := tableChannel nbits w
  let s1 := { s with agenda := .word c (tableWord nbits w) :: s.agenda }
  match decodeWord c (tableWord nbits w) with
  | .ok i => makeEnabled i s1
  | .error _ => s1

end Sys2Proof.Machine
end

