-- ==== Sys2Proof/Machine/Step.lean ====
section
/-! DEFINITION. One step of the machine, and the placing of an instruction where the next step takes it from. -/
namespace Sys2Proof.Machine

/-- One step: the next move of the schedule (R6, R11, R56). -/
def step (s : State) : Host.Outcome State Fault Refusal := Sys2Proof.Machine.runNext s

/-- `s` with a table row's instruction as its next move (log entry 2). -/
def State.withFetchWord (s : State) (nbits w : Nat) : State := Sys2Proof.Machine.scheduleTableWord s nbits w

end Sys2Proof.Machine
end

