-- ==== Sys2Proof/Safety.lean ====
section
/-! DEFINITION. What a good state is, in the terms the statements use: the parts of the state invariant that every step keeps,
the shape of the chip-select history, and the conditions under which an agent has a step. -/
namespace Sys2Proof.Machine

/-! ## When an agent has a step -/

/-- The command port accepts a word (R65), and its agent is not stuck (R52). -/
abbrev PortOpen (s : State) : Prop := s.callerStuck = false ∧ s.seq.phase = .idle

/-- The bounded wait is in progress (R21, R116), and its agent is not stuck. -/
abbrev Waiting (s : State) : Prop := s.callerStuck = false ∧ s.seq.phase = .wait

/-- The interrupt agent has a step (R130): the line is high, and the agent is not stuck. -/
abbrev IrqReady (s : State) : Prop := s.irqStuck = false ∧ irqLine s = true

/-! ## The invariant -/

/-- `P.IE` holds its reserved bits at 0 (R31). -/
abbrev IeReservedZero (s : State) : Prop := s.p.ie &&& ~~~ ieBits = 0#32

/-- The ring buffer has `S` slots and masked indices (R36, R85). -/
abbrev RingShaped (s : State) : Prop :=
  s.ring.slots.length = rbSize s.par ∧ s.ring.head &&& rbMask s.par = s.ring.head ∧ s.ring.tail &&& rbMask s.par = s.ring.tail

/-- `ctx.state` is `Ready` or a Busy state, `ctx.last_err` a recorded kind, and no fault of the model is recorded
(R23, R145). -/
abbrev CodesLegal (s : State) : Prop :=
  legalState s.ctx.state = true ∧ legalLastErr s.ctx.lastErr = true ∧ s.modelFault = false

/-- Outside a transfer every source and the peripheral are disabled; inside one the peripheral is enabled (R110, R144). -/
abbrev QuietOutsideTransfer (s : State) : Prop :=
  (s.ctx.state = .ready → s.p.ie = 0#32) ∧ (s.p.spe = isBusy s.ctx.state)

/-- The enable law (R143). -/
abbrev EnablesFollowCounts (s : State) : Prop :=
  (hasFlag .txp s.p.ie = true → s.ctx.txRemaining ≠ 0#16)
    ∧ (hasFlag .rxp s.p.ie = true → s.ctx.rxRemaining ≠ 0#16)
    ∧ (hasFlag .dxp s.p.ie = true → s.ctx.txRemaining ≠ 0#16 ∧ s.ctx.rxRemaining ≠ 0#16)

/-- The line is undriven exactly in the hardware-managed configuration (R95, R96). -/
abbrev ChipSelectShaped (s : State) : Prop := s.cs.sw = true ↔ s.cs.out ≠ .undriven

/-- The sequencer names a transfer command exactly while it waits for one (R21), and only after `INIT` (R38). -/
abbrev SequencerShaped (s : State) : Prop :=
  (s.seq.phase = .idle ↔ s.seq.kind = .none) ∧ (s.ctx.inited = false → s.ctx.state = .ready)

/-- Bytes a transfer was started with, by direction: moved and left (R141). -/
abbrev txTotal (c : Ctx) : Nat := c.txIdx.toNat + c.txRemaining.toNat
/-- The same for the receive direction. -/
abbrev rxTotal (c : Ctx) : Nat := c.rxIdx.toNat + c.rxRemaining.toNat

/-- The counter law of a running transfer: moved and left add up to the length that `P.TSIZE` was armed with (R115, R141),
and the buffers end at or below `2^32` (R108). -/
abbrev CountersAddUp (s : State) : Prop :=
  isBusy s.ctx.state = true →
    txTotal s.ctx < 65536 ∧ rxTotal s.ctx < 65536
      ∧ (s.ctx.state = .busyTx → rxTotal s.ctx = 0 ∧ s.p.tsize.toNat = txTotal s.ctx)
      ∧ (s.ctx.state = .busyRx → txTotal s.ctx = 0 ∧ s.p.tsize.toNat = rxTotal s.ctx)
      ∧ (s.ctx.state = .busyTxRx → 0 < txTotal s.ctx ∧ 0 < rxTotal s.ctx
          ∧ s.p.tsize.toNat = max (txTotal s.ctx) (rxTotal s.ctx))
      ∧ s.ctx.txBase.toNat + txTotal s.ctx ≤ 4294967296
      ∧ (s.ctx.rxPresent = true → s.ctx.rxBase.toNat + rxTotal s.ctx ≤ 4294967296 ∧ s.par.rxViaRb = false)

/-- The invariant of the machine at every step boundary. -/
structure StateInv (s : State) : Prop where
  params : s.par.wf
  memory : Memory.wf s.mem
  ring : RingShaped s
  ieReserved : IeReservedZero s
  codes : CodesLegal s
  quiet : QuietOutsideTransfer s
  enables : EnablesFollowCounts s
  chipSelect : ChipSelectShaped s
  sequencer : SequencerShaped s
  counters : CountersAddUp s

/-! ## The chip-select history -/

/-- What the chip-select events of a history say: whether every `CsLow` follows a `CsHigh` with no `CsLow` between
(R97, R101, R102), and the level driven last. -/
structure CsTrace where
  good : Bool
  last : CsLevel
  deriving DecidableEq, Repr

/-- One more event. -/
def csTraceStep (t : CsTrace) : Event → CsTrace
  | .csLow => { good := t.good && t.last == .high, last := .low }
  | .csHigh => { t with last := .high }
  | .start => t
  | .txByte _ => t
  | .rxByte _ => t
  | .memRd _ _ => t
  | .memWr _ _ => t
  | .clear _ => t
  | .release _ _ => t
  | .tick => t

/-- The trace of a whole history, from a line the block has not driven. -/
def csTrace (h : List Event) : CsTrace := h.foldl csTraceStep { good := true, last := .undriven }

/-- The history and the line agree: every assertion came from the inactive level, and while a software-managed line is
configured its level is the one driven last. -/
abbrev CsHistoryGood (s : State) : Prop :=
  (csTrace s.history).good = true ∧ ChipSelectShaped s ∧ (s.cs.sw = true → (csTrace s.history).last = s.cs.out)

/-! ## Moves of the four agents -/

/-- The move is a step of one of the four agents, no direct call of an internal procedure (R6, R73). -/
def agentMove (m : Move) : Bool :=
  match m with
  | .word c w =>
    match decodeWord c w with
    | .ok i => i.agent.isSome
    | .error _ => false
  | .store _ _ => true

/-- The schedule holds agents' moves only. -/
abbrev AgentsOnly (s : State) : Prop := ∀ m ∈ s.agenda, agentMove m = true

/-- Before `INIT` the block drives no pin (R101). -/
abbrev UndrivenBeforeInit (s : State) : Prop := s.ctx.inited = false → s.cs.out = .undriven ∧ s.cs.sw = false

end Sys2Proof.Machine
end

