-- ==== Sys2Proof/Certificates/Slice0/Obligations.lean ====
section
/-! DEFINITION. The statements about the machine, each from the rules of the spec that its docstring names. The effects are
written out here with the rules' own values, not through the operations the model uses. -/
namespace Sys2Proof.Says

open Sys2Proof.Machine

/-! ## Words the statements share -/

/-- The response word with `RESULT`, `CODE` and `COUNT` (R72). -/
def response (result : Bool) (code count : Nat) : CmdWord :=
  BitVec.ofNat 128 ((if result = true then 1 else 0) + 256 * code + 65536 * count)

/-- A command has completed with that response (R72). -/
def answered (result : Bool) (code count : Nat) (s : State) : State :=
  { s with seq := { s.seq with response := response result code count }, ctx := { s.ctx with result := result } }

/-- The command was turned away as InvalidRequest: `RESULT = 0`, `CODE = 7`, nothing else written (R147). -/
def Rejected (i : Instr) (s : State) : Prop := exec i s = .next (answered false 7 0 s)

/-- The line after `CS.assert()` (R97). -/
def asserted (c : ChipSelect) : ChipSelect := if c.sw = true ∧ c.out ≠ .low then { c with out := .low } else c

/-- The events of `CS.assert()` (R97). -/
def assertEvents (c : ChipSelect) : List Event := if c.sw = true ∧ c.out ≠ .low then [.csLow] else []

/-- The line after `CS.deassert()` (R98). -/
def deasserted (c : ChipSelect) : ChipSelect := if c.sw = true ∧ c.out ≠ .high then { c with out := .high } else c

/-- The events of `CS.deassert()` (R98). -/
def deassertEvents (c : ChipSelect) : List Event := if c.sw = true ∧ c.out ≠ .high then [.csHigh] else []

/-- The state a started transfer begins in (R109, R110, R114, R115). -/
def started (kind : CmdKind) (sl : Len) (sa : Addr) (rl : Len) (ra : Addr) (s : State) : State :=
  { s with
    ctx :=
      { s.ctx with
        txBase := sa, txIdx := 0#16, txRemaining := sl
        rxPresent := decide (rl ≠ 0#16 ∧ s.par.rxViaRb = false), rxBase := ra, rxIdx := 0#16, rxRemaining := rl
        txDone := decide (sl = 0#16), rxDone := decide (rl = 0#16), xferErr := false
        state := if rl = 0#16 then .busyTx else if sl = 0#16 then .busyRx else .busyTxRx
        t0 := s.tick }
    p :=
      { s.p with
        tsize := if rl = 0#16 then sl else if sl = 0#16 then rl else BitVec.ofNat 16 (max sl.toNat rl.toNat)
        spe := true
        ie := if rl = 0#16 then 0x36A#32 else if sl = 0#16 then 0x369#32 else 0x36F#32 }
    cs := asserted s.cs
    history := s.history ++ assertEvents s.cs ++ [.start]
    seq := { s.seq with phase := .wait, kind := kind } }

/-- None of the five conditions of R108 holds. -/
abbrev StartAllowed (sl : Len) (sa : Addr) (rl : Len) (ra : Addr) (s : State) : Prop :=
  s.ctx.inited = true ∧ s.ctx.state = .ready ∧ (sl ≠ 0#16 ∨ rl ≠ 0#16)
    ∧ (sl ≠ 0#16 → sa.toNat + sl.toNat ≤ 4294967296)
    ∧ (rl ≠ 0#16 → s.par.rxViaRb = false → ra.toNat + rl.toNat ≤ 4294967296)

/-- The caller released with a result and a code (R116). -/
def released (result : Bool) (code : Nat) (s : State) : State :=
  { answered result code 0 s with
    seq := { phase := .idle, kind := .none, response := response result code 0 }
    history := s.history ++ [.release s.seq.kind result] }

/-- The index mask `M` as a word (R36). -/
def mask (par : Params) : RbIdx := BitVec.ofNat 16 (2 ^ par.rbK - 1)

/-- The number of unread bytes (R36, R85). -/
def unreadCount (s : State) : Nat := ((s.ring.head - s.ring.tail) &&& mask s.par).toNat

/-- The `k`-th unread byte (R88). -/
def unreadByte (s : State) (k : Nat) : Byte :=
  s.ring.slots.getD ((s.ring.tail + BitVec.ofNat 16 k) &&& mask s.par).toNat 0#8

/-- `addr + k`. -/
def plus (a : Addr) (k : Nat) : Addr := a + BitVec.ofNat 32 k

/-- The address of the next send byte (R24). -/
def sendAddr (s : State) : Addr := s.ctx.txBase + BitVec.ofNat 32 s.ctx.txIdx.toNat

/-- The address of the next received byte (R25). -/
def recvAddr (s : State) : Addr := s.ctx.rxBase + BitVec.ofNat 32 s.ctx.rxIdx.toNat

/-- The receive path stores in caller memory (R134). -/
abbrev ReceivesToMemory (s : State) : Prop := s.par.rxViaRb = false ∧ s.ctx.rxPresent = true

/-- The state after `tx_move()` (R134). -/
def sent (s : State) : State :=
  { s with
    ctx := { s.ctx with txIdx := s.ctx.txIdx + 1#16, txRemaining := s.ctx.txRemaining - 1#16 }
    p := { s.p with ie := if s.ctx.txRemaining = 1#16 then s.p.ie &&& ~~~ 0x6#32 else s.p.ie }
    history := s.history ++ [.memRd (sendAddr s) (byteAt s (sendAddr s)), .txByte (byteAt s (sendAddr s))] }

/-- The ring buffer after `RB.write(b)` (R86, R87). -/
def ringWritten (b : Byte) (s : State) : Ring :=
  if (s.ring.head + 1#16) &&& mask s.par = s.ring.tail then
    { slots := s.ring.slots.set s.ring.head.toNat b
      head := (s.ring.head + 1#16) &&& mask s.par
      tail := if s.par.ovrPolicy = .dropOldest then (s.ring.tail + 1#16) &&& mask s.par else s.ring.tail
      bovr := true }
  else
    { s.ring with slots := s.ring.slots.set s.ring.head.toNat b, head := (s.ring.head + 1#16) &&& mask s.par }

/-- The state after `rx_move()` has read the byte `v` (R134). -/
def received (v : Byte) (s : State) : State :=
  { s with
    ctx := { s.ctx with rxIdx := s.ctx.rxIdx + 1#16, rxRemaining := s.ctx.rxRemaining - 1#16 }
    p := { s.p with ie := if s.ctx.rxRemaining = 1#16 then s.p.ie &&& ~~~ 0x5#32 else s.p.ie }
    rxPinned := none
    rxDraws := s.rxDraws + 1
    ring := if s.par.rxViaRb = true then ringWritten v s else s.ring
    mem := if s.par.rxViaRb = false ∧ s.ctx.rxPresent = true then cellWrite s.mem (recvAddr s).toNat v else s.mem
    history :=
      s.history ++ [.rxByte v]
        ++ (if s.par.rxViaRb = false ∧ s.ctx.rxPresent = true then [.memWr (recvAddr s) v] else []) }

/-- A flag of the cause, `P.IE AND P.SR` (R130). -/
abbrev inCause (f : SrFlag) (s : State) : Prop := hasFlag f (s.p.ie &&& s.p.sr) = true

/-- The duplex-ready condition (R131). -/
abbrev Duplex (s : State) : Prop := inCause .dxp s ∧ ¬ inCause .ovr s ∧ ¬ inCause .udr s

/-- The send byte, where one is left to move, can be read (R52). -/
abbrev SendReachable (s : State) : Prop := s.ctx.txRemaining ≠ 0#16 → memAdmits s.par (sendAddr s) = true

/-- The received byte, where one is left to move and memory receives it, can be stored (R52). -/
abbrev RecvReachable (s : State) : Prop :=
  s.ctx.rxRemaining ≠ 0#16 → ReceivesToMemory s → memAdmits s.par (recvAddr s) = true

/-- The state after `FINALIZE` (R117): nothing before end-of-transfer. -/
def finalized (s : State) : State :=
  if hasFlag .eot s.p.sr = true then
    { s with
      cs := deasserted s.cs
      p := { s.p with sr := s.p.sr &&& ~~~ 0x8#32, ie := 0#32, spe := false }
      ctx := { s.ctx with txDone := true, rxDone := true, state := .ready }
      history := s.history ++ deassertEvents s.cs ++ [.clear .eot] }
  else s

/-- The state after `CLEANUP` (R118). -/
def cleanedUp (s : State) : State :=
  { s with
    cs := deasserted s.cs
    p := { s.p with ie := 0#32, spe := false }
    ctx :=
      { s.ctx with
        txDone := if s.par.cleanupSetsDone = true then true else s.ctx.txDone
        rxDone := if s.par.cleanupSetsDone = true then true else s.ctx.rxDone
        state := .ready }
    history := s.history ++ deassertEvents s.cs }

/-- Step 5 (R137): the end of an invocation that moved bytes and now stands in `u`. -/
def stepFive (u : State) : State :=
  if u.ctx.txRemaining = 0#16 ∧ u.ctx.rxRemaining = 0#16 then
    (if hasFlag .eot u.p.sr = true then finalized u else cleanedUp u)
  else u

/-- The state after the suspend case of the Error/Disable Handler (R149). -/
def suspendCleared (s : State) : State :=
  { s with p := { s.p with sr := s.p.sr &&& ~~~ 0x800#32 }, history := s.history ++ [.clear .susp] }

/-- The state after the recovery from the error flags of `sr0`, bits 5, 6, 8 and 9 (R150, R151). -/
def recovered (sr0 : Reg) (s : State) : State :=
  { s with
    ctx :=
      { s.ctx with
        lastErr :=
          if hasFlag .ovr sr0 = true then .busOverrun
          else if hasFlag .modf sr0 = true then .modeFault
          else if hasFlag .fre sr0 = true then .frameError
          else .underrun
        errorCount := s.ctx.errorCount + 1#32
        xferErr := true
        state := .ready }
    p := { s.p with sr := s.p.sr &&& ~~~ (sr0 &&& 0x360#32), ie := 0#32, spe := false }
    cs := deasserted s.cs
    history :=
      s.history
        ++ (if hasFlag .ovr sr0 = true then [.clear .ovr] else [])
        ++ (if hasFlag .modf sr0 = true then [.clear .modf] else [])
        ++ (if hasFlag .fre sr0 = true then [.clear .fre] else [])
        ++ (if hasFlag .udr sr0 = true then [.clear .udr] else [])
        ++ deassertEvents s.cs }

/-- The state after the Error/Disable Handler with the snapshot `sr0` (R149). -/
def errorsHandled (sr0 : Reg) (s : State) : State :=
  if hasFlag .susp sr0 = true ∧ hasFlag .eot sr0 = true then suspendCleared s
  else if sr0 &&& 0x360#32 = 0#32 then s
  else recovered sr0 s

/-- Instructions run one after the other. -/
def execAll : List Instr → State → Host.Outcome State Fault Refusal
  | [], s => .next s
  | i :: is, s =>
    match exec i s with
    | .next t => execAll is t
    | .fault r => .fault r
    | .refused r => .refused r

/-- A reserved opcode (R69), or a bit of the opcode's reserved-zero mask (R67). -/
abbrev IllegalWord (w : CmdWord) : Prop :=
  w.toNat % 256 = 0 ∨ 9 ≤ w.toNat % 256
    ∨ (w.toNat % 256 = 1 ∧ w &&& 0xFFFFFFFFFFFFFFFFFFFFFFFFFF00FE00#128 ≠ 0#128)
    ∨ (w.toNat % 256 = 2 ∧ w &&& 0x0000000000000000FFFF00000000FF00#128 ≠ 0#128)
    ∨ (w.toNat % 256 = 3 ∧ w &&& 0xFFFFFFFF00000000FFFFFFFF0000FF00#128 ≠ 0#128)
    ∨ (w.toNat % 256 = 4 ∧ w &&& 0x00000000FFFFFFFFFFFF0000FFFFFF00#128 ≠ 0#128)
    ∨ (w.toNat % 256 = 5 ∧ w &&& 0xFFFFFFFF00000000FFFFFFFFFFFFFF00#128 ≠ 0#128)
    ∨ (6 ≤ w.toNat % 256 ∧ w &&& 0xFFFFFFFFFFFFFFFFFFFFFFFFFFFFFF00#128 ≠ 0#128)

/-- An `INIT` word's instruction. -/
def isInit : Instr → Bool
  | .init _ _ _ => true
  | .xfer _ _ _ _ => false
  | .txonly _ _ => false
  | .rxonly _ _ => false
  | .rbdrain _ => false
  | .status => false
  | .csassert => false
  | .csdeassert => false
  | .irq => false
  | .tick => false
  | .pstep _ _ _ => false
  | .poll => false
  | .rbWrite _ => false
  | .csInit _ _ _ => false
  | .csAssertP => false
  | .csDeassertP => false
  | .finalize => false
  | .cleanup => false
  | .errh _ => false
  | .reserved _ => false

end Sys2Proof.Says

section
open Sys2Proof Sys2Proof.Machine Sys2Proof.Says

/-! ## Encoding -/

/-- R77: the words of the spec's encoding examples are the commands they stand for. -/
def Obligations.PublishedWordsDecode : Prop :=
  decodeTableWord 128 0x00C10101 = some (.init true 1#4 12#4)
    ∧ decodeTableWord 128 0x00000001 = some (.init false 0#4 0#4)
    ∧ decodeTableWord 128 0x00002000000010000000000200020002 = some (.xfer 2#16 2#16 0x1000#32 0x2000#32)
    ∧ decodeTableWord 128 0x00000000000010000000000000030003 = some (.txonly 3#16 0x1000#32)
    ∧ decodeTableWord 128 0x00002000000000000000000400000004 = some (.rxonly 4#16 0x2000#32)
    ∧ decodeTableWord 128 0x00000000000030000000000000000005 = some (.rbdrain 0x3000#32)
    ∧ decodeTableWord 128 0x06 = some .status
    ∧ decodeTableWord 128 0x07 = some .csassert
    ∧ decodeTableWord 128 0x08 = some .csdeassert

/-- R66 to R73: every well-formed instruction's word decodes to it, with every operand at every value. The layout of the
internal words' operands is the model's choice (log entry 4). -/
def Obligations.DecodeOfEncodeIsTheInstruction : Prop :=
  ∀ i : Instr, WellFormed i = true → decodeWord (channelOf i) (encode i) = .ok i

/-- R65 to R70: on the port every 128-bit word is a command or a refused word, and its instruction gives the word back. -/
def Obligations.EveryPortWordHasOneMeaning : Prop :=
  ∀ w : CmdWord, encode (decodePort w) = w ∧ (decodePort w).isCommand = true ∧ WellFormed (decodePort w) = true

/-- R70: a reserved opcode, or a bit of its format's reserved-zero mask (R67), makes the word an InvalidRequest. That
`ctx.result` is written (R147), where R70 says that no state changes, is the model's reading (log entry 8). -/
def Obligations.IllegalWordsAreInvalidRequests : Prop :=
  ∀ (w : CmdWord) (s : State), PortOpen s →
    IllegalWord w → decodeWord .port w = .ok (.reserved w) ∧ Rejected (.reserved w) s

/-- Every word of the port completes: it is answered in the same step, or starts a transfer, or (R52) leaves the caller
stuck; none stops the machine (R72, R146). -/
def Obligations.EveryCommandWordCompletes : Prop :=
  ∀ (w : CmdWord) (s : State), PortOpen s →
    ∃ t, exec (decodePort w) s = .next t
      ∧ (t.callerStuck = true ∨ t.seq.phase = .wait ∨ (t.seq.phase = .idle ∧ t.ctx.result = t.seq.response.getLsbD 0))

/-! ## Steps -/

/-- R6, R11: the scheduled word's instruction is what the step runs, the schedule advances (the schedule is the model's choice,
log entry 2), and a value of `ctx.state` that no rule writes is recorded as a fault of the model (R23). That the values 6 and 7
of `ctx.last_err` are recorded in the same way is the model's choice, read from I15 (log entry 9). A platform store is no
instruction and outside this statement. -/
def Obligations.StepRunsTheScheduledInstruction : Prop :=
  ∀ (s : State) (c : Channel) (w : CmdWord) (rest : List Move) (i : Instr),
    s.agenda = .word c w :: rest → decodeWord c w = .ok i →
    step s = exec i
      { s with
        agenda := rest
        modelFault :=
          s.modelFault || !(s.ctx.state = .ready || isBusy s.ctx.state)
            || (s.ctx.lastErr = .bufferOverrun || s.ctx.lastErr = .invalidRequest) }

/-- R56, R146: with nothing scheduled from outside, the free schedule always finds a next state: no step of an agent stops
the machine (log entry 2). -/
def Obligations.FreeScheduleNeverStops : Prop :=
  ∀ s : State, s.agenda = [] → ∃ t, step s = .next t

/-- R65, R116, R130: a step its agent does not have in this state is not taken. -/
def Obligations.DisabledStepsAreNotTaken : Prop :=
  (∀ (s : State) (i : Instr), i.isCommand = true → s.callerStuck = false → s.seq.phase = .wait →
      exec i s = .fault .commandWhileWaiting)
    ∧ (∀ s : State, s.callerStuck = false → s.seq.phase = .idle → exec .poll s = .fault .pollWhileIdle)
    ∧ (∀ s : State, s.irqStuck = false → s.p.ie &&& s.p.sr = 0#32 → exec .irq s = .fault .irqNotEnabled)

/-! ## Reset -/

/-- R44, R170: what reset leaves, for every choice of the parameters; the values R44 leaves open are not stated, and the
interrupt line is low whatever `P.SR` holds. -/
def Obligations.ResetLeavesTheSpecifiedState : Prop :=
  ∀ par : Params,
    let s := State.resetWith par
    s.ctx.state = .ready ∧ s.seq.phase = .idle ∧ s.seq.kind = .none
      ∧ s.ctx.txIdx = 0#16 ∧ s.ctx.rxIdx = 0#16 ∧ s.ctx.rxPresent = false
      ∧ s.ctx.txRemaining = 0#16 ∧ s.ctx.rxRemaining = 0#16
      ∧ s.ctx.txDone = false ∧ s.ctx.rxDone = false ∧ s.ctx.xferErr = false ∧ s.ctx.lastErr = .none
      ∧ s.ctx.errorCount = 0#32 ∧ s.ctx.timeoutCount = 0#32
      ∧ s.ring.head = 0#16 ∧ s.ring.tail = 0#16 ∧ s.ring.bovr = false ∧ s.ring.slots.length = 2 ^ par.rbK
      ∧ s.cs.sw = false ∧ s.cs.port = 0#4 ∧ s.cs.pin = 0#4 ∧ s.cs.clk = false ∧ s.cs.out = .undriven
      ∧ s.ctx.inited = false ∧ s.ctx.result = false
      ∧ s.p.ie = 0#32 ∧ s.p.spe = false ∧ s.p.tsize = 0#16
      ∧ ∀ sr : Reg, irqLine { s with p := { s.p with sr := sr } } = false

/-! ## INIT and the chip select -/

/-- R105, R96, R173: a successful `INIT`, every field it writes and none beside them, in every `ctx.state`. -/
def Obligations.InitResetsTheDriver : Prop :=
  ∀ (s : State) (sw : Bool) (port pin : BitVec 4), PortOpen s → (sw = true → port.toNat < s.par.gpioPorts) →
    exec (.init sw port pin) s = .next
      { s with
        ctx :=
          { s.ctx with
            state := .ready, txIdx := 0#16, rxIdx := 0#16, rxPresent := false
            txRemaining := 0#16, rxRemaining := 0#16, txDone := false, rxDone := false, xferErr := false
            lastErr := .none, errorCount := 0#32, timeoutCount := 0#32, inited := true, result := true }
        ring := { s.ring with head := 0#16, tail := 0#16, bovr := false }
        cs :=
          if sw = true then { sw := true, port := port, pin := pin, clk := true, out := .high }
          else { sw := false, port := 0#4, pin := 0#4, clk := s.cs.clk, out := .undriven }
        p := { sr := s.p.sr &&& ~~~ 0xB68#32, ie := 0#32, spe := false, tsize := 0#16 }
        seq := { s.seq with kind := .none, response := response true 0 0 }
        history :=
          s.history ++ [.clear .eot, .clear .udr, .clear .ovr, .clear .fre, .clear .modf, .clear .susp]
            ++ (if sw = true then [.csHigh] else []) }

/-- R104: an `INIT` naming a software-managed chip select on a port the platform does not have is refused; every other `INIT`
succeeds, whatever the pin. -/
def Obligations.InitChecksThePort : Prop :=
  ∀ (s : State) (sw : Bool) (port pin : BitVec 4), PortOpen s →
    (sw = true ∧ s.par.gpioPorts ≤ port.toNat → Rejected (.init sw port pin) s)
    ∧ (¬ (sw = true ∧ s.par.gpioPorts ≤ port.toNat) →
        ∃ t, exec (.init sw port pin) s = .next t ∧ t.ctx.inited = true ∧ t.seq.response = response true 0 0)

/-- R96 to R98: the chip-select procedures, with everything they leave alone. -/
def Obligations.ChipSelectProcedures : Prop :=
  ∀ s : State,
    (∀ (sw : Bool) (port pin : BitVec 4), exec (.csInit sw port pin) s = .next
      { s with
        cs :=
          if sw = true then { sw := true, port := port, pin := pin, clk := true, out := .high }
          else { sw := false, port := 0#4, pin := 0#4, clk := s.cs.clk, out := .undriven }
        history := s.history ++ (if sw = true then [.csHigh] else []) })
    ∧ exec .csAssertP s = .next { s with cs := asserted s.cs, history := s.history ++ assertEvents s.cs }
    ∧ exec .csDeassertP s = .next { s with cs := deasserted s.cs, history := s.history ++ deassertEvents s.cs }

/-- R97, R98: both procedures are idempotent. -/
def Obligations.ChipSelectIsIdempotent : Prop :=
  ∀ s t : State,
    (exec .csAssertP s = .next t → exec .csAssertP t = .next t)
    ∧ (exec .csDeassertP s = .next t → exec .csDeassertP t = .next t)

/-- R99, R100: the chip-select commands once initialised and while `Ready`; otherwise they are refused. -/
def Obligations.ChipSelectCommands : Prop :=
  ∀ s : State, PortOpen s →
    (s.ctx.inited = true ∧ s.ctx.state = .ready →
      exec .csassert s = .next
        { answered true 0 0 s with cs := asserted s.cs, history := s.history ++ assertEvents s.cs }
      ∧ exec .csdeassert s = .next
        { answered true 0 0 s with cs := deasserted s.cs, history := s.history ++ deassertEvents s.cs })
    ∧ (s.ctx.inited = false ∨ s.ctx.state ≠ .ready → Rejected .csassert s ∧ Rejected .csdeassert s)

/-- R38, R71: before `INIT` every command but `INIT` and `STATUS` is refused. -/
def Obligations.CommandsNeedInit : Prop :=
  ∀ (s : State) (i : Instr), PortOpen s → s.ctx.inited = false → i.isCommand = true → isInit i = false → i ≠ .status →
    Rejected i s

/-! ## Transfers -/

/-- R107 to R110, R114, R115: `XFER` starts its transfer. -/
def Obligations.XferStarts : Prop :=
  ∀ (s : State) (sl rl : Len) (sa ra : Addr), PortOpen s → StartAllowed sl sa rl ra s →
    exec (.xfer sl rl sa ra) s = .next (started .xfer sl sa rl ra s)

/-- R111: `TXONLY` is the transfer with no receive bytes. -/
def Obligations.TxonlyStarts : Prop :=
  ∀ (s : State) (sl : Len) (sa : Addr), PortOpen s → StartAllowed sl sa 0#16 0#32 s →
    exec (.txonly sl sa) s = .next (started .txonly sl sa 0#16 0#32 s)

/-- R112: `RXONLY` is the transfer with no send bytes. -/
def Obligations.RxonlyStarts : Prop :=
  ∀ (s : State) (rl : Len) (ra : Addr), PortOpen s → StartAllowed 0#16 0#32 rl ra s →
    exec (.rxonly rl ra) s = .next (started .rxonly 0#16 0#32 rl ra s)

/-- R108, R147: any of the five conditions turns the transfer command away with no other effect. -/
def Obligations.IllegalTransfersAreRejected : Prop :=
  ∀ (s : State) (sl rl : Len) (sa ra : Addr), PortOpen s →
    (¬ StartAllowed sl sa rl ra s → Rejected (.xfer sl rl sa ra) s)
    ∧ (¬ StartAllowed sl sa 0#16 0#32 s → Rejected (.txonly sl sa) s)
    ∧ (¬ StartAllowed 0#16 0#32 rl ra s → Rejected (.rxonly rl ra) s)

/-- R116: the wait ends on a hardware error, else on both done flags, else on the timeout, else goes on. -/
def Obligations.PollReleasesTheCaller : Prop :=
  ∀ s : State, Waiting s →
    exec .poll s = .next
      (if s.ctx.xferErr = true then released false (errCode s.ctx.lastErr).toNat s
       else if s.ctx.txDone = true ∧ s.ctx.rxDone = true then released true 0 s
       else if s.par.timeoutTicks < (s.tick - s.ctx.t0).toNat then
         released false 5
           { s with ctx := { s.ctx with timeoutCount := s.ctx.timeoutCount + 1#32, lastErr := .timeout } }
       else s)

/-- R159, R116: with no release by case 1 or 2, the first `POLL` that can time out is the one after the tick counter has
advanced `TIMEOUT_TICKS + 1` times since `ctx.t0`. -/
def Obligations.TimeoutBoundary : Prop :=
  ∀ (s : State) (n : Nat), Waiting s → s.ctx.xferErr = false → ¬ (s.ctx.txDone = true ∧ s.ctx.rxDone = true) →
    s.ctx.t0 = s.tick → n < 4294967296 →
    ∃ t, execAll (List.replicate n .tick) s = .next t
      ∧ exec .poll t = .next
        (if n ≤ s.par.timeoutTicks then t
         else released false 5
           { t with ctx := { t.ctx with timeoutCount := t.ctx.timeoutCount + 1#32, lastErr := .timeout } })

/-- R74: the status word. That the response and `ctx.result` are written (R72), and nothing else, where R113 says that no state
changes, is the model's reading (log entry 8). -/
def Obligations.StatusReportsTheContext : Prop :=
  ∀ s : State, PortOpen s →
    ∃ r : CmdWord,
      exec .status s = .next { s with seq := { s.seq with response := r }, ctx := { s.ctx with result := true } }
      ∧ r.getLsbD 0 = true
      ∧ r.extractLsb' 1 3 = stateCode s.ctx.state
      ∧ r.getLsbD 4 = s.ctx.txDone
      ∧ r.getLsbD 5 = s.ctx.rxDone
      ∧ r.getLsbD 6 = s.ctx.xferErr
      ∧ r.getLsbD 7 = s.ring.bovr
      ∧ r.extractLsb' 8 3 = errCode s.ctx.lastErr
      ∧ r.getLsbD 11 = s.ctx.inited
      ∧ r.extractLsb' 12 2 = csCode s.cs.out
      ∧ r.getLsbD 14 = s.cs.sw
      ∧ r.getLsbD 15 = false
      ∧ r.extractLsb' 16 16 = s.ctx.txRemaining
      ∧ r.extractLsb' 32 16 = s.ctx.rxRemaining
      ∧ r.extractLsb' 48 16 = BitVec.ofNat 16 (unreadCount s)
      ∧ r.extractLsb' 64 32 = s.ctx.errorCount
      ∧ r.extractLsb' 96 32 = s.ctx.timeoutCount

/-- R117: finalization at end-of-transfer, and that it does nothing before it. -/
def Obligations.FinalizeEndsTheTransfer : Prop := ∀ s : State, exec .finalize s = .next (finalized s)

/-- R118: early cleanup, for both values of `CLEANUP_SETS_DONE`. -/
def Obligations.CleanupEndsTheTransfer : Prop := ∀ s : State, exec .cleanup s = .next (cleanedUp s)

/-! ## The dispatcher -/

/-- R132, R134, R137: a duplex invocation moves one byte each way, transmit first, each guarded by its count, and completes
the transfer when nothing is left. The received byte is the one fixed for the wire, else any byte. -/
def Obligations.DuplexInvocationMovesAPair : Prop :=
  ∀ s : State, IrqReady s → Duplex s → SendReachable s → RecvReachable s →
    ∃ v : Byte, (∀ b, s.rxPinned = some b → v = b)
      ∧ exec .irq s = .next
        (stepFive
          (let u := if s.ctx.txRemaining = 0#16 then s else sent s
           if s.ctx.rxRemaining = 0#16 then u else received v u))

/-- R133, R138: without the duplex condition, a received byte is moved first, whatever `TXP` says. -/
def Obligations.ReceiveInvocationMovesOneByte : Prop :=
  ∀ s : State, IrqReady s → ¬ Duplex s → inCause .rxp s → RecvReachable s →
    ∃ v : Byte, (∀ b, s.rxPinned = some b → v = b)
      ∧ exec .irq s = .next (stepFive (if s.ctx.rxRemaining = 0#16 then s else received v s))

/-- R135: with neither, a send byte is moved. -/
def Obligations.TransmitInvocationMovesOneByte : Prop :=
  ∀ s : State, IrqReady s → ¬ Duplex s → ¬ inCause .rxp s → inCause .txp s → SendReachable s →
    exec .irq s = .next (stepFive (if s.ctx.txRemaining = 0#16 then s else sent s))

/-- R139: with no data source in the cause, finalization is invoked and then the error handler with the snapshot. -/
def Obligations.OtherInvocationsFinalizeThenHandleErrors : Prop :=
  ∀ s : State, IrqReady s → ¬ Duplex s → ¬ inCause .rxp s → ¬ inCause .txp s →
    exec .irq s = .next (errorsHandled s.p.sr (finalized s))

/-- R52, I21: an invocation whose byte move meets an address outside `MEM_OK` leaves its agent stuck, a stuck `IRQ` agent has
no step, and every step of the machine leaves it stuck. That the access leaves nothing half done, and that nothing but reset
takes the marker back, is the model's reading (log entry 5). -/
def Obligations.UnreachableMemoryLeavesIrqStuck : Prop :=
  (∀ s : State, IrqReady s →
      (((Duplex s ∨ (¬ inCause .rxp s ∧ inCause .txp s)) ∧ ¬ SendReachable s)
        ∨ ((Duplex s ∨ inCause .rxp s) ∧ ¬ RecvReachable s)) →
      exec .irq s = .next { s with irqStuck := true })
    ∧ (∀ s : State, s.irqStuck = true → exec .irq s = .fault .irqHasNoStep)
    ∧ (∀ s t : State, s.irqStuck = true → step s = .next t → t.irqStuck = true)

/-- R134: an invocation stores at most the received byte, at `rx_base + rx_idx`; every other byte of caller memory reads as
before, and all of it where the receive path does not store. -/
def Obligations.InvocationStoresOnlyTheReceivedByte : Prop :=
  ∀ s t : State, Memory.wf s.mem → exec .irq s = .next t →
    (∀ a : Addr, ReceivesToMemory s → a ≠ recvAddr s → byteAt t a = byteAt s a)
    ∧ (∀ a : Addr, ¬ ReceivesToMemory s → byteAt t a = byteAt s a)

/-- R144: outside a transfer no invocation is enabled, whatever `P.SR` holds. -/
def Obligations.NoInvocationOutsideTransfers : Prop :=
  ∀ (s : State) (sr : Reg), StateInv s → s.ctx.state = .ready → s.irqStuck = false →
    exec .irq { s with p := { s.p with sr := sr } } = .fault .irqNotEnabled

/-- R136: one invocation moves at most one byte in each direction (`rxDraws` counts the bytes read, log entry 6). -/
def Obligations.OneByteEachWayAtMost : Prop :=
  ∀ s t : State, exec .irq s = .next t →
    (t.ctx.txIdx = s.ctx.txIdx ∧ t.ctx.txRemaining = s.ctx.txRemaining
      ∨ s.ctx.txRemaining ≠ 0#16 ∧ t.ctx.txIdx = s.ctx.txIdx + 1#16 ∧ t.ctx.txRemaining = s.ctx.txRemaining - 1#16)
    ∧ (t.ctx.rxIdx = s.ctx.rxIdx ∧ t.ctx.rxRemaining = s.ctx.rxRemaining ∧ t.rxDraws = s.rxDraws
      ∨ s.ctx.rxRemaining ≠ 0#16 ∧ t.ctx.rxIdx = s.ctx.rxIdx + 1#16 ∧ t.ctx.rxRemaining = s.ctx.rxRemaining - 1#16
        ∧ t.rxDraws = s.rxDraws + 1)

/-- R142, R143: in a state of the invariant a duplex invocation that reaches memory moves both cursors by one. -/
def Obligations.DuplexMovesBothCursors : Prop :=
  ∀ s t : State, StateInv s → Duplex s → exec .irq s = .next t → t.irqStuck = false →
    t.ctx.txIdx = s.ctx.txIdx + 1#16 ∧ t.ctx.rxIdx = s.ctx.rxIdx + 1#16
      ∧ t.ctx.txRemaining.toNat + 1 = s.ctx.txRemaining.toNat ∧ t.ctx.rxRemaining.toNat + 1 = s.ctx.rxRemaining.toNat

/-- R154: an invocation saves nothing and leaves the caller's own progress alone. -/
def Obligations.InvocationLeavesTheCallerAlone : Prop :=
  ∀ s t : State, exec .irq s = .next t →
    t.seq = s.seq ∧ t.callerStuck = s.callerStuck ∧ t.ctx.t0 = s.ctx.t0 ∧ t.ctx.timeoutCount = s.ctx.timeoutCount
      ∧ t.ctx.inited = s.ctx.inited ∧ t.ctx.result = s.ctx.result ∧ t.ctx.txBase = s.ctx.txBase
      ∧ t.ctx.rxBase = s.ctx.rxBase ∧ t.ctx.rxPresent = s.ctx.rxPresent ∧ t.tick = s.tick ∧ t.p.tsize = s.p.tsize
      ∧ t.cs.sw = s.cs.sw ∧ t.cs.port = s.cs.port ∧ t.cs.pin = s.cs.pin ∧ t.cs.clk = s.cs.clk ∧ t.par = s.par

/-! ## The Error/Disable Handler -/

/-- R149 to R151: the handler for every snapshot: suspend with end-of-transfer is only cleared; else the hardware error flags of
the snapshot are recovered, every one cleared, the first in the order `OVR`, `MODF`, `FRE`, `UDR` recorded and the count
incremented once; else nothing is written. -/
def Obligations.ErrorHandlerActsBySnapshot : Prop :=
  ∀ (s : State) (sr0 : Reg), exec (.errh sr0) s = .next (errorsHandled sr0 s)

/-- R152: the handler called again on the flags it left changes nothing, `error_count` least of all. -/
def Obligations.SecondRecoveryChangesNothing : Prop :=
  ∀ s t : State, ¬ (hasFlag .susp s.p.sr = true ∧ hasFlag .eot s.p.sr = true) → exec (.errh s.p.sr) s = .next t →
    exec (.errh t.p.sr) t = .next t

/-- R178: with `EOT`, `SUSP` and an error flag pending in an invocation that reaches step 6, the error is masked: the flag
stays pending with every source disabled, nothing is counted, and the next `POLL` of a waiting caller reports success. -/
def Obligations.SuspendMasksAnError : Prop :=
  ∀ (s t : State), IrqReady s → ¬ Duplex s → ¬ inCause .rxp s → ¬ inCause .txp s →
    hasFlag .eot s.p.sr = true → hasFlag .susp s.p.sr = true → s.ctx.xferErr = false → Waiting s →
    exec .irq s = .next t →
    t.p.ie = 0#32 ∧ t.p.sr &&& 0x360#32 = s.p.sr &&& 0x360#32 ∧ t.ctx.errorCount = s.ctx.errorCount
      ∧ ∃ u, exec .poll t = .next u ∧ u.seq.response = response true 0 0 ∧ u.ctx.result = true

/-! ## The ring buffer -/

/-- R86: a write that does not reach the tail. -/
def Obligations.RbWriteStoresTheByte : Prop :=
  ∀ (s : State) (b : Byte), (s.ring.head + 1#16) &&& mask s.par ≠ s.ring.tail →
    exec (.rbWrite b) s = .next
      { s with
        ring :=
          { s.ring with slots := s.ring.slots.set s.ring.head.toNat b, head := (s.ring.head + 1#16) &&& mask s.par } }

/-- R87: a write that reaches the tail sets the sticky flag and, by the policy, drops the oldest unread byte or does no
more; nothing else of the machine changes. -/
def Obligations.RbWriteOverruns : Prop :=
  ∀ (s : State) (b : Byte), (s.ring.head + 1#16) &&& mask s.par = s.ring.tail →
    exec (.rbWrite b) s = .next
      { s with
        ring :=
          { slots := s.ring.slots.set s.ring.head.toNat b
            head := (s.ring.head + 1#16) &&& mask s.par
            tail := if s.par.ovrPolicy = .dropOldest then (s.ring.tail + 1#16) &&& mask s.par else s.ring.tail
            bovr := true } }

/-- R88, R90: a drain copies the unread bytes in order, empties the ring and answers their count; every other byte of caller
memory reads as before. That each store has its event is the model's reading (log entry 11). -/
def Obligations.DrainCopiesTheUnreadBytes : Prop :=
  ∀ (s : State) (d : Addr), Memory.wf s.mem → PortOpen s → s.ctx.inited = true →
    d.toNat + unreadCount s ≤ 4294967296 → (∀ k < unreadCount s, memAdmits s.par (plus d k) = true) →
    ∃ t, exec (.rbdrain d) s = .next t
      ∧ t = { answered true 0 (unreadCount s) s with
              mem := t.mem
              ring := { s.ring with tail := s.ring.head }
              history :=
                s.history ++ (List.range (unreadCount s)).map (fun k => .memWr (plus d k) (unreadByte s k)) }
      ∧ (∀ k < unreadCount s, byteAt t (plus d k) = unreadByte s k)
      ∧ (∀ a : Addr, (∀ k < unreadCount s, a ≠ plus d k) → byteAt t a = byteAt s a)

/-- R91: a drain whose range passes `2^32` is refused. -/
def Obligations.DrainPastTopIsRejected : Prop :=
  ∀ (s : State) (d : Addr), PortOpen s → 4294967296 < d.toNat + unreadCount s → Rejected (.rbdrain d) s

/-- R52, R90, I21: a drain to an address outside `MEM_OK` leaves the caller stuck, a stuck caller has none of its steps, and
every step of the machine leaves it stuck. That nothing is half copied, and that nothing but reset takes the marker back, is the
model's reading (log entry 5). -/
def Obligations.DrainWithoutMemoryLeavesCallerStuck : Prop :=
  (∀ (s : State) (d : Addr), PortOpen s → s.ctx.inited = true → d.toNat + unreadCount s ≤ 4294967296 →
      (∃ k < unreadCount s, memAdmits s.par (plus d k) = false) →
      exec (.rbdrain d) s = .next { s with callerStuck := true })
    ∧ (∀ (s : State) (i : Instr), s.callerStuck = true → i.agent = some .caller → exec i s = .fault .callerHasNoStep)
    ∧ (∀ s t : State, s.callerStuck = true → step s = .next t → t.callerStuck = true)

/-- R93: from an empty ring, any bytes up to the usable capacity come out of a drain as they were written, and the overrun
flag is unchanged. -/
def Obligations.RingBufferRoundTrip : Prop :=
  ∀ (s : State) (bytes : List Byte) (d : Addr),
    s.par.wf → RingShaped s → Memory.wf s.mem → PortOpen s → s.ctx.inited = true →
    s.ring.head = s.ring.tail → bytes.length ≤ 2 ^ s.par.rbK - 1 →
    d.toNat + bytes.length ≤ 4294967296 → (∀ k < bytes.length, memAdmits s.par (plus d k) = true) →
    ∃ t u, execAll (bytes.map .rbWrite) s = .next t ∧ exec (.rbdrain d) t = .next u
      ∧ u.seq.response = response true 0 bytes.length
      ∧ (∀ (k : Nat) (h : k < bytes.length), byteAt u (plus d k) = bytes[k])
      ∧ u.ring.bovr = s.ring.bovr ∧ u.ring.tail = u.ring.head

/-- R93, R87: `S` bytes written from an empty ring overrun it: the flag is set, and what stays readable is all but the oldest
byte, or nothing, by the policy. -/
def Obligations.FullRingOverruns : Prop :=
  ∀ (s : State) (bytes : List Byte), s.par.wf → RingShaped s → s.ring.head = s.ring.tail →
    bytes.length = 2 ^ s.par.rbK →
    ∃ t, execAll (bytes.map .rbWrite) s = .next t ∧ t.ring.bovr = true
      ∧ (List.range (unreadCount t)).map (unreadByte t)
        = (if s.par.ovrPolicy = .dropOldest then bytes.drop 1 else [])

/-! ## The agents outside the block -/

/-- R41: a tick. -/
def Obligations.TickAdvancesTheCounter : Prop :=
  ∀ s : State, exec .tick s = .next
    { s with tick := BitVec.ofNat 32 (s.tick.toNat + 1), history := s.history ++ [.tick] }

/-- R35: a peripheral step changes pending flags only, and may fix the next received byte (R75). That it may change reserved
bits, sets before it clears and leaves an earlier fixed byte standing is the model's reading (log entry 13). -/
def Obligations.PeripheralStepChangesPendingFlagsOnly : Prop :=
  ∀ (s : State) (set clr : Reg) (rx : Option Byte),
    ∃ sr : Reg,
      exec (.pstep set clr rx) s = .next
        { s with p := { s.p with sr := sr }, rxPinned := if rx = none then s.rxPinned else rx }
      ∧ ∀ n, sr.getLsbD n = ((s.p.sr.getLsbD n || set.getLsbD n) && !clr.getLsbD n)

/-! ## Rules over every instruction and every step -/

/-- The invariant holds at reset, for every admitted choice of the parameters. -/
def Obligations.ResetMeetsTheInvariant : Prop := ∀ par : Params, par.wf → StateInv (State.resetWith par)

/-- R23, R31, R36, R95, R141, R143, R144: every step keeps the invariant: legal state values, reserved bits zero, masked ring
indices, the enable law, the counter law, no source enabled outside a transfer, memory canonical. -/
def Obligations.EveryStepKeepsTheInvariant : Prop :=
  ∀ s t : State, StateInv s → step s = .next t → StateInv t

/-- R57: events are only appended. -/
def Obligations.HistoryIsAppendOnly : Prop :=
  ∀ s t : State, step s = .next t → ∃ es, t.history = s.history ++ es

/-- The chip-select history is good at reset. -/
def Obligations.ResetMeetsTheChipSelectHistory : Prop := ∀ par : Params, CsHistoryGood (State.resetWith par)

/-- R97, R98, R101, R102: every assertion of the line follows a drive to the inactive level, and the history agrees with the
line, at every step. -/
def Obligations.ChipSelectHistoryStaysGood : Prop :=
  ∀ s t : State, CsHistoryGood s → step s = .next t → CsHistoryGood t

/-- R45, R134, R88: only an invocation and a drain store in caller memory. -/
def Obligations.OnlyIrqAndDrainStore : Prop :=
  ∀ (s t : State) (i : Instr), exec i s = .next t → i ≠ .irq → (∀ d, i ≠ .rbdrain d) → t.mem = s.mem

/-- R101: while the schedule holds agents' moves only, no pin is driven before `INIT`. -/
def Obligations.NoPinDrivenBeforeInit : Prop :=
  ∀ s t : State, AgentsOnly s → UndrivenBeforeInit s → step s = .next t → AgentsOnly t ∧ UndrivenBeforeInit t

/-- R106, R120: every transition of `ctx.state`: into a Busy state only by a transfer command from `Ready`, back to `Ready` only
by the events of R106, and no other change. -/
def Obligations.OnlyTheListedTransitions : Prop :=
  ∀ (s t : State) (i : Instr), exec i s = .next t →
    t.ctx.state = s.ctx.state
      ∨ (t.ctx.state = .ready
        ∧ (i = .irq ∨ i = .finalize ∨ i = .cleanup ∨ (∃ sr0, i = .errh sr0) ∨ isInit i = true))
      ∨ (s.ctx.state = .ready ∧ isBusy t.ctx.state = true
        ∧ ((∃ sl rl sa ra, i = .xfer sl rl sa ra) ∨ (∃ sl sa, i = .txonly sl sa) ∨ (∃ rl ra, i = .rxonly rl ra)))

/-- R103: whatever ends a transfer leaves the line not asserted. -/
def Obligations.LeavingBusyDeassertsTheLine : Prop :=
  ∀ (s t : State) (i : Instr), ChipSelectShaped s → isBusy s.ctx.state = true → exec i s = .next t →
    t.ctx.state = .ready → t.cs.out ≠ .low

/-- R29: the diagnostic counters only count, each by its own writer, until an `INIT` that succeeds. -/
def Obligations.DiagnosticCountersOnlyCount : Prop :=
  ∀ (s t : State) (i : Instr), exec i s = .next t → isInit i = false →
    (t.ctx.errorCount = s.ctx.errorCount
      ∨ ((i = .irq ∨ ∃ sr0, i = .errh sr0) ∧ t.ctx.errorCount = s.ctx.errorCount + 1#32))
    ∧ (t.ctx.timeoutCount = s.ctx.timeoutCount ∨ (i = .poll ∧ t.ctx.timeoutCount = s.ctx.timeoutCount + 1#32))

/-- R171: nothing but reset takes `inited` or `cs_clk` back. -/
def Obligations.InitedAndClockStaySet : Prop :=
  ∀ s t : State, step s = .next t →
    (s.ctx.inited = true → t.ctx.inited = true) ∧ (s.cs.clk = true → t.cs.clk = true)

/-- R87, R179: the buffer-overrun flag stays set until `INIT`. -/
def Obligations.OverrunFlagIsSticky : Prop :=
  ∀ (s t : State) (i : Instr), exec i s = .next t → isInit i = false → s.ring.bovr = true → t.ring.bovr = true

/-- R46, R116: while a transfer is Busy, a step of the caller other than `INIT` writes no context field but `last_err`,
`timeout_count` and `result`, and leaves `head`, the slots, `bovr`, the peripheral registers and the line alone. `last_err` (a
timeout) and `tail` (a drain) it may write, though the interrupt context writes them too. -/
def Obligations.CallerLeavesABusyTransferAlone : Prop :=
  ∀ (s t : State) (i : Instr), i.agent = some .caller → isInit i = false → isBusy s.ctx.state = true →
    exec i s = .next t →
    t.ctx = { s.ctx with lastErr := t.ctx.lastErr, timeoutCount := t.ctx.timeoutCount, result := t.ctx.result }
      ∧ t.ring.head = s.ring.head ∧ t.ring.slots = s.ring.slots ∧ t.ring.bovr = s.ring.bovr ∧ t.p = s.p ∧ t.cs = s.cs

/-- R7: no step writes the parameters (log entry 1). -/
def Obligations.ParametersNeverChange : Prop := ∀ s t : State, step s = .next t → t.par = s.par

end
end

