-- ==== Sys2Proof/Laws/Exec.lean ====
section
/-! SUPPORT. The meaning `exec` gives each instruction, so that no proof unfolds the match. -/
namespace Sys2Proof.Machine

theorem exec_init (csSw : Bool) (csPort : BitVec 4) (csPin : BitVec 4) (s : State) : exec (.init csSw csPort csPin) s = execInit csSw csPort csPin s := rfl
theorem exec_xfer (slen : Len) (rlen : Len) (saddr : Addr) (raddr : Addr) (s : State) : exec (.xfer slen rlen saddr raddr) s = execXfer slen rlen saddr raddr s := rfl
theorem exec_txonly (slen : Len) (saddr : Addr) (s : State) : exec (.txonly slen saddr) s = execTxonly slen saddr s := rfl
theorem exec_rxonly (rlen : Len) (raddr : Addr) (s : State) : exec (.rxonly rlen raddr) s = execRxonly rlen raddr s := rfl
theorem exec_rbdrain (daddr : Addr) (s : State) : exec (.rbdrain daddr) s = execRbdrain daddr s := rfl
theorem exec_status (s : State) : exec (.status) s = execStatus s := rfl
theorem exec_csassert (s : State) : exec (.csassert) s = execCsassert s := rfl
theorem exec_csdeassert (s : State) : exec (.csdeassert) s = execCsdeassert s := rfl
theorem exec_irq (s : State) : exec (.irq) s = execIrq s := rfl
theorem exec_tick (s : State) : exec (.tick) s = execTick s := rfl
theorem exec_pstep (set : Reg) (clr : Reg) (rx : Option Byte) (s : State) : exec (.pstep set clr rx) s = execPstep set clr rx s := rfl
theorem exec_poll (s : State) : exec (.poll) s = execPoll s := rfl
theorem exec_rbWrite (b : Byte) (s : State) : exec (.rbWrite b) s = execRbWrite b s := rfl
theorem exec_csInit (sw : Bool) (port : BitVec 4) (pin : BitVec 4) (s : State) : exec (.csInit sw port pin) s = execCsInit sw port pin s := rfl
theorem exec_csAssertP (s : State) : exec (.csAssertP) s = execCsAssertP s := rfl
theorem exec_csDeassertP (s : State) : exec (.csDeassertP) s = execCsDeassertP s := rfl
theorem exec_finalize (s : State) : exec (.finalize) s = execFinalize s := rfl
theorem exec_cleanup (s : State) : exec (.cleanup) s = execCleanup s := rfl
theorem exec_errh (sr0 : Reg) (s : State) : exec (.errh sr0) s = execErrh sr0 s := rfl
theorem exec_reserved (w : CmdWord) (s : State) : exec (.reserved w) s = execReserved w s := rfl

end Sys2Proof.Machine
end

