-- ==== Sys2Proof/Laws/State.lean ====
section
/-! SUPPORT. What each named update of the state does to each field, so that no proof unfolds an update. -/
namespace Sys2Proof.Machine

@[simp] theorem setByte_par (s : State) (a : Addr) (v : Byte) : (setByte s a v).par = s.par := rfl
@[simp] theorem setByte_ctx (s : State) (a : Addr) (v : Byte) : (setByte s a v).ctx = s.ctx := rfl
@[simp] theorem setByte_ring (s : State) (a : Addr) (v : Byte) : (setByte s a v).ring = s.ring := rfl
@[simp] theorem setByte_cs (s : State) (a : Addr) (v : Byte) : (setByte s a v).cs = s.cs := rfl
@[simp] theorem setByte_seq (s : State) (a : Addr) (v : Byte) : (setByte s a v).seq = s.seq := rfl
@[simp] theorem setByte_p (s : State) (a : Addr) (v : Byte) : (setByte s a v).p = s.p := rfl
@[simp] theorem setByte_tick (s : State) (a : Addr) (v : Byte) : (setByte s a v).tick = s.tick := rfl
@[simp] theorem setByte_mem (s : State) (a : Addr) (v : Byte) : (setByte s a v).mem = cellWrite s.mem a.toNat v := rfl
@[simp] theorem setByte_history (s : State) (a : Addr) (v : Byte) : (setByte s a v).history = s.history := rfl
@[simp] theorem setByte_rxPinned (s : State) (a : Addr) (v : Byte) : (setByte s a v).rxPinned = s.rxPinned := rfl
@[simp] theorem setByte_rxDraws (s : State) (a : Addr) (v : Byte) : (setByte s a v).rxDraws = s.rxDraws := rfl
@[simp] theorem setByte_agenda (s : State) (a : Addr) (v : Byte) : (setByte s a v).agenda = s.agenda := rfl
@[simp] theorem setByte_freeMoves (s : State) (a : Addr) (v : Byte) : (setByte s a v).freeMoves = s.freeMoves := rfl
@[simp] theorem setByte_callerStuck (s : State) (a : Addr) (v : Byte) : (setByte s a v).callerStuck = s.callerStuck := rfl
@[simp] theorem setByte_irqStuck (s : State) (a : Addr) (v : Byte) : (setByte s a v).irqStuck = s.irqStuck := rfl
@[simp] theorem setByte_modelFault (s : State) (a : Addr) (v : Byte) : (setByte s a v).modelFault = s.modelFault := rfl

@[simp] theorem emit_par (e : Event) (s : State) : (emit e s).par = s.par := rfl
@[simp] theorem emit_ctx (e : Event) (s : State) : (emit e s).ctx = s.ctx := rfl
@[simp] theorem emit_ring (e : Event) (s : State) : (emit e s).ring = s.ring := rfl
@[simp] theorem emit_cs (e : Event) (s : State) : (emit e s).cs = s.cs := rfl
@[simp] theorem emit_seq (e : Event) (s : State) : (emit e s).seq = s.seq := rfl
@[simp] theorem emit_p (e : Event) (s : State) : (emit e s).p = s.p := rfl
@[simp] theorem emit_tick (e : Event) (s : State) : (emit e s).tick = s.tick := rfl
@[simp] theorem emit_mem (e : Event) (s : State) : (emit e s).mem = s.mem := rfl
@[simp] theorem emit_history (e : Event) (s : State) : (emit e s).history = s.history ++ [e] := rfl
@[simp] theorem emit_rxPinned (e : Event) (s : State) : (emit e s).rxPinned = s.rxPinned := rfl
@[simp] theorem emit_rxDraws (e : Event) (s : State) : (emit e s).rxDraws = s.rxDraws := rfl
@[simp] theorem emit_agenda (e : Event) (s : State) : (emit e s).agenda = s.agenda := rfl
@[simp] theorem emit_freeMoves (e : Event) (s : State) : (emit e s).freeMoves = s.freeMoves := rfl
@[simp] theorem emit_callerStuck (e : Event) (s : State) : (emit e s).callerStuck = s.callerStuck := rfl
@[simp] theorem emit_irqStuck (e : Event) (s : State) : (emit e s).irqStuck = s.irqStuck := rfl
@[simp] theorem emit_modelFault (e : Event) (s : State) : (emit e s).modelFault = s.modelFault := rfl

@[simp] theorem respondWord_par (w : CmdWord) (r : Bool) (s : State) : (respondWord w r s).par = s.par := rfl
@[simp] theorem respondWord_ctx (w : CmdWord) (r : Bool) (s : State) : (respondWord w r s).ctx = { s.ctx with result := r } := rfl
@[simp] theorem respondWord_ring (w : CmdWord) (r : Bool) (s : State) : (respondWord w r s).ring = s.ring := rfl
@[simp] theorem respondWord_cs (w : CmdWord) (r : Bool) (s : State) : (respondWord w r s).cs = s.cs := rfl
@[simp] theorem respondWord_seq (w : CmdWord) (r : Bool) (s : State) : (respondWord w r s).seq = { s.seq with response := w } := rfl
@[simp] theorem respondWord_p (w : CmdWord) (r : Bool) (s : State) : (respondWord w r s).p = s.p := rfl
@[simp] theorem respondWord_tick (w : CmdWord) (r : Bool) (s : State) : (respondWord w r s).tick = s.tick := rfl
@[simp] theorem respondWord_mem (w : CmdWord) (r : Bool) (s : State) : (respondWord w r s).mem = s.mem := rfl
@[simp] theorem respondWord_history (w : CmdWord) (r : Bool) (s : State) : (respondWord w r s).history = s.history := rfl
@[simp] theorem respondWord_rxPinned (w : CmdWord) (r : Bool) (s : State) : (respondWord w r s).rxPinned = s.rxPinned := rfl
@[simp] theorem respondWord_rxDraws (w : CmdWord) (r : Bool) (s : State) : (respondWord w r s).rxDraws = s.rxDraws := rfl
@[simp] theorem respondWord_agenda (w : CmdWord) (r : Bool) (s : State) : (respondWord w r s).agenda = s.agenda := rfl
@[simp] theorem respondWord_freeMoves (w : CmdWord) (r : Bool) (s : State) : (respondWord w r s).freeMoves = s.freeMoves := rfl
@[simp] theorem respondWord_callerStuck (w : CmdWord) (r : Bool) (s : State) : (respondWord w r s).callerStuck = s.callerStuck := rfl
@[simp] theorem respondWord_irqStuck (w : CmdWord) (r : Bool) (s : State) : (respondWord w r s).irqStuck = s.irqStuck := rfl
@[simp] theorem respondWord_modelFault (w : CmdWord) (r : Bool) (s : State) : (respondWord w r s).modelFault = s.modelFault := rfl

@[simp] theorem respond_par (r : Bool) (k : ErrKind) (n : RbIdx) (s : State) : (respond r k n s).par = s.par := rfl
@[simp] theorem respond_ctx (r : Bool) (k : ErrKind) (n : RbIdx) (s : State) : (respond r k n s).ctx = { s.ctx with result := r } := rfl
@[simp] theorem respond_ring (r : Bool) (k : ErrKind) (n : RbIdx) (s : State) : (respond r k n s).ring = s.ring := rfl
@[simp] theorem respond_cs (r : Bool) (k : ErrKind) (n : RbIdx) (s : State) : (respond r k n s).cs = s.cs := rfl
@[simp] theorem respond_seq (r : Bool) (k : ErrKind) (n : RbIdx) (s : State) : (respond r k n s).seq = { s.seq with response := responseWord r k n } := rfl
@[simp] theorem respond_p (r : Bool) (k : ErrKind) (n : RbIdx) (s : State) : (respond r k n s).p = s.p := rfl
@[simp] theorem respond_tick (r : Bool) (k : ErrKind) (n : RbIdx) (s : State) : (respond r k n s).tick = s.tick := rfl
@[simp] theorem respond_mem (r : Bool) (k : ErrKind) (n : RbIdx) (s : State) : (respond r k n s).mem = s.mem := rfl
@[simp] theorem respond_history (r : Bool) (k : ErrKind) (n : RbIdx) (s : State) : (respond r k n s).history = s.history := rfl
@[simp] theorem respond_rxPinned (r : Bool) (k : ErrKind) (n : RbIdx) (s : State) : (respond r k n s).rxPinned = s.rxPinned := rfl
@[simp] theorem respond_rxDraws (r : Bool) (k : ErrKind) (n : RbIdx) (s : State) : (respond r k n s).rxDraws = s.rxDraws := rfl
@[simp] theorem respond_agenda (r : Bool) (k : ErrKind) (n : RbIdx) (s : State) : (respond r k n s).agenda = s.agenda := rfl
@[simp] theorem respond_freeMoves (r : Bool) (k : ErrKind) (n : RbIdx) (s : State) : (respond r k n s).freeMoves = s.freeMoves := rfl
@[simp] theorem respond_callerStuck (r : Bool) (k : ErrKind) (n : RbIdx) (s : State) : (respond r k n s).callerStuck = s.callerStuck := rfl
@[simp] theorem respond_irqStuck (r : Bool) (k : ErrKind) (n : RbIdx) (s : State) : (respond r k n s).irqStuck = s.irqStuck := rfl
@[simp] theorem respond_modelFault (r : Bool) (k : ErrKind) (n : RbIdx) (s : State) : (respond r k n s).modelFault = s.modelFault := rfl

@[simp] theorem invalidRequest_par (s : State) : (invalidRequest s).par = s.par := rfl
@[simp] theorem invalidRequest_ctx (s : State) : (invalidRequest s).ctx = { s.ctx with result := false } := rfl
@[simp] theorem invalidRequest_ring (s : State) : (invalidRequest s).ring = s.ring := rfl
@[simp] theorem invalidRequest_cs (s : State) : (invalidRequest s).cs = s.cs := rfl
@[simp] theorem invalidRequest_seq (s : State) : (invalidRequest s).seq = { s.seq with response := responseWord false .invalidRequest 0#16 } := rfl
@[simp] theorem invalidRequest_p (s : State) : (invalidRequest s).p = s.p := rfl
@[simp] theorem invalidRequest_tick (s : State) : (invalidRequest s).tick = s.tick := rfl
@[simp] theorem invalidRequest_mem (s : State) : (invalidRequest s).mem = s.mem := rfl
@[simp] theorem invalidRequest_history (s : State) : (invalidRequest s).history = s.history := rfl
@[simp] theorem invalidRequest_rxPinned (s : State) : (invalidRequest s).rxPinned = s.rxPinned := rfl
@[simp] theorem invalidRequest_rxDraws (s : State) : (invalidRequest s).rxDraws = s.rxDraws := rfl
@[simp] theorem invalidRequest_agenda (s : State) : (invalidRequest s).agenda = s.agenda := rfl
@[simp] theorem invalidRequest_freeMoves (s : State) : (invalidRequest s).freeMoves = s.freeMoves := rfl
@[simp] theorem invalidRequest_callerStuck (s : State) : (invalidRequest s).callerStuck = s.callerStuck := rfl
@[simp] theorem invalidRequest_irqStuck (s : State) : (invalidRequest s).irqStuck = s.irqStuck := rfl
@[simp] theorem invalidRequest_modelFault (s : State) : (invalidRequest s).modelFault = s.modelFault := rfl

@[simp] theorem clearFlag_par (f : SrFlag) (s : State) : (clearFlag f s).par = s.par := rfl
@[simp] theorem clearFlag_ctx (f : SrFlag) (s : State) : (clearFlag f s).ctx = s.ctx := rfl
@[simp] theorem clearFlag_ring (f : SrFlag) (s : State) : (clearFlag f s).ring = s.ring := rfl
@[simp] theorem clearFlag_cs (f : SrFlag) (s : State) : (clearFlag f s).cs = s.cs := rfl
@[simp] theorem clearFlag_seq (f : SrFlag) (s : State) : (clearFlag f s).seq = s.seq := rfl
@[simp] theorem clearFlag_p (f : SrFlag) (s : State) : (clearFlag f s).p = { s.p with sr := if clearable f then dropFlag f s.p.sr else s.p.sr } := rfl
@[simp] theorem clearFlag_tick (f : SrFlag) (s : State) : (clearFlag f s).tick = s.tick := rfl
@[simp] theorem clearFlag_mem (f : SrFlag) (s : State) : (clearFlag f s).mem = s.mem := rfl
@[simp] theorem clearFlag_history (f : SrFlag) (s : State) : (clearFlag f s).history = s.history := rfl
@[simp] theorem clearFlag_rxPinned (f : SrFlag) (s : State) : (clearFlag f s).rxPinned = s.rxPinned := rfl
@[simp] theorem clearFlag_rxDraws (f : SrFlag) (s : State) : (clearFlag f s).rxDraws = s.rxDraws := rfl
@[simp] theorem clearFlag_agenda (f : SrFlag) (s : State) : (clearFlag f s).agenda = s.agenda := rfl
@[simp] theorem clearFlag_freeMoves (f : SrFlag) (s : State) : (clearFlag f s).freeMoves = s.freeMoves := rfl
@[simp] theorem clearFlag_callerStuck (f : SrFlag) (s : State) : (clearFlag f s).callerStuck = s.callerStuck := rfl
@[simp] theorem clearFlag_irqStuck (f : SrFlag) (s : State) : (clearFlag f s).irqStuck = s.irqStuck := rfl
@[simp] theorem clearFlag_modelFault (f : SrFlag) (s : State) : (clearFlag f s).modelFault = s.modelFault := rfl

@[simp] theorem clearFlagEv_par (f : SrFlag) (s : State) : (clearFlagEv f s).par = s.par := rfl
@[simp] theorem clearFlagEv_ctx (f : SrFlag) (s : State) : (clearFlagEv f s).ctx = s.ctx := rfl
@[simp] theorem clearFlagEv_ring (f : SrFlag) (s : State) : (clearFlagEv f s).ring = s.ring := rfl
@[simp] theorem clearFlagEv_cs (f : SrFlag) (s : State) : (clearFlagEv f s).cs = s.cs := rfl
@[simp] theorem clearFlagEv_seq (f : SrFlag) (s : State) : (clearFlagEv f s).seq = s.seq := rfl
@[simp] theorem clearFlagEv_p (f : SrFlag) (s : State) : (clearFlagEv f s).p = (clearFlag f s).p := rfl
@[simp] theorem clearFlagEv_tick (f : SrFlag) (s : State) : (clearFlagEv f s).tick = s.tick := rfl
@[simp] theorem clearFlagEv_mem (f : SrFlag) (s : State) : (clearFlagEv f s).mem = s.mem := rfl
@[simp] theorem clearFlagEv_history (f : SrFlag) (s : State) : (clearFlagEv f s).history = s.history ++ [.clear f] := rfl
@[simp] theorem clearFlagEv_rxPinned (f : SrFlag) (s : State) : (clearFlagEv f s).rxPinned = s.rxPinned := rfl
@[simp] theorem clearFlagEv_rxDraws (f : SrFlag) (s : State) : (clearFlagEv f s).rxDraws = s.rxDraws := rfl
@[simp] theorem clearFlagEv_agenda (f : SrFlag) (s : State) : (clearFlagEv f s).agenda = s.agenda := rfl
@[simp] theorem clearFlagEv_freeMoves (f : SrFlag) (s : State) : (clearFlagEv f s).freeMoves = s.freeMoves := rfl
@[simp] theorem clearFlagEv_callerStuck (f : SrFlag) (s : State) : (clearFlagEv f s).callerStuck = s.callerStuck := rfl
@[simp] theorem clearFlagEv_irqStuck (f : SrFlag) (s : State) : (clearFlagEv f s).irqStuck = s.irqStuck := rfl
@[simp] theorem clearFlagEv_modelFault (f : SrFlag) (s : State) : (clearFlagEv f s).modelFault = s.modelFault := rfl

@[simp] theorem setIe_par (v : Reg) (s : State) : (setIe v s).par = s.par := rfl
@[simp] theorem setIe_ctx (v : Reg) (s : State) : (setIe v s).ctx = s.ctx := rfl
@[simp] theorem setIe_ring (v : Reg) (s : State) : (setIe v s).ring = s.ring := rfl
@[simp] theorem setIe_cs (v : Reg) (s : State) : (setIe v s).cs = s.cs := rfl
@[simp] theorem setIe_seq (v : Reg) (s : State) : (setIe v s).seq = s.seq := rfl
@[simp] theorem setIe_p (v : Reg) (s : State) : (setIe v s).p = { s.p with ie := v &&& ieBits } := rfl
@[simp] theorem setIe_tick (v : Reg) (s : State) : (setIe v s).tick = s.tick := rfl
@[simp] theorem setIe_mem (v : Reg) (s : State) : (setIe v s).mem = s.mem := rfl
@[simp] theorem setIe_history (v : Reg) (s : State) : (setIe v s).history = s.history := rfl
@[simp] theorem setIe_rxPinned (v : Reg) (s : State) : (setIe v s).rxPinned = s.rxPinned := rfl
@[simp] theorem setIe_rxDraws (v : Reg) (s : State) : (setIe v s).rxDraws = s.rxDraws := rfl
@[simp] theorem setIe_agenda (v : Reg) (s : State) : (setIe v s).agenda = s.agenda := rfl
@[simp] theorem setIe_freeMoves (v : Reg) (s : State) : (setIe v s).freeMoves = s.freeMoves := rfl
@[simp] theorem setIe_callerStuck (v : Reg) (s : State) : (setIe v s).callerStuck = s.callerStuck := rfl
@[simp] theorem setIe_irqStuck (v : Reg) (s : State) : (setIe v s).irqStuck = s.irqStuck := rfl
@[simp] theorem setIe_modelFault (v : Reg) (s : State) : (setIe v s).modelFault = s.modelFault := rfl

@[simp] theorem disableSource_par (f : SrFlag) (s : State) : (disableSource f s).par = s.par := rfl
@[simp] theorem disableSource_ctx (f : SrFlag) (s : State) : (disableSource f s).ctx = s.ctx := rfl
@[simp] theorem disableSource_ring (f : SrFlag) (s : State) : (disableSource f s).ring = s.ring := rfl
@[simp] theorem disableSource_cs (f : SrFlag) (s : State) : (disableSource f s).cs = s.cs := rfl
@[simp] theorem disableSource_seq (f : SrFlag) (s : State) : (disableSource f s).seq = s.seq := rfl
@[simp] theorem disableSource_p (f : SrFlag) (s : State) : (disableSource f s).p = { s.p with ie := dropFlag f s.p.ie } := rfl
@[simp] theorem disableSource_tick (f : SrFlag) (s : State) : (disableSource f s).tick = s.tick := rfl
@[simp] theorem disableSource_mem (f : SrFlag) (s : State) : (disableSource f s).mem = s.mem := rfl
@[simp] theorem disableSource_history (f : SrFlag) (s : State) : (disableSource f s).history = s.history := rfl
@[simp] theorem disableSource_rxPinned (f : SrFlag) (s : State) : (disableSource f s).rxPinned = s.rxPinned := rfl
@[simp] theorem disableSource_rxDraws (f : SrFlag) (s : State) : (disableSource f s).rxDraws = s.rxDraws := rfl
@[simp] theorem disableSource_agenda (f : SrFlag) (s : State) : (disableSource f s).agenda = s.agenda := rfl
@[simp] theorem disableSource_freeMoves (f : SrFlag) (s : State) : (disableSource f s).freeMoves = s.freeMoves := rfl
@[simp] theorem disableSource_callerStuck (f : SrFlag) (s : State) : (disableSource f s).callerStuck = s.callerStuck := rfl
@[simp] theorem disableSource_irqStuck (f : SrFlag) (s : State) : (disableSource f s).irqStuck = s.irqStuck := rfl
@[simp] theorem disableSource_modelFault (f : SrFlag) (s : State) : (disableSource f s).modelFault = s.modelFault := rfl

@[simp] theorem setSpe_par (v : Bool) (s : State) : (setSpe v s).par = s.par := rfl
@[simp] theorem setSpe_ctx (v : Bool) (s : State) : (setSpe v s).ctx = s.ctx := rfl
@[simp] theorem setSpe_ring (v : Bool) (s : State) : (setSpe v s).ring = s.ring := rfl
@[simp] theorem setSpe_cs (v : Bool) (s : State) : (setSpe v s).cs = s.cs := rfl
@[simp] theorem setSpe_seq (v : Bool) (s : State) : (setSpe v s).seq = s.seq := rfl
@[simp] theorem setSpe_p (v : Bool) (s : State) : (setSpe v s).p = { s.p with spe := v } := rfl
@[simp] theorem setSpe_tick (v : Bool) (s : State) : (setSpe v s).tick = s.tick := rfl
@[simp] theorem setSpe_mem (v : Bool) (s : State) : (setSpe v s).mem = s.mem := rfl
@[simp] theorem setSpe_history (v : Bool) (s : State) : (setSpe v s).history = s.history := rfl
@[simp] theorem setSpe_rxPinned (v : Bool) (s : State) : (setSpe v s).rxPinned = s.rxPinned := rfl
@[simp] theorem setSpe_rxDraws (v : Bool) (s : State) : (setSpe v s).rxDraws = s.rxDraws := rfl
@[simp] theorem setSpe_agenda (v : Bool) (s : State) : (setSpe v s).agenda = s.agenda := rfl
@[simp] theorem setSpe_freeMoves (v : Bool) (s : State) : (setSpe v s).freeMoves = s.freeMoves := rfl
@[simp] theorem setSpe_callerStuck (v : Bool) (s : State) : (setSpe v s).callerStuck = s.callerStuck := rfl
@[simp] theorem setSpe_irqStuck (v : Bool) (s : State) : (setSpe v s).irqStuck = s.irqStuck := rfl
@[simp] theorem setSpe_modelFault (v : Bool) (s : State) : (setSpe v s).modelFault = s.modelFault := rfl

@[simp] theorem setTsize_par (v : Len) (s : State) : (setTsize v s).par = s.par := rfl
@[simp] theorem setTsize_ctx (v : Len) (s : State) : (setTsize v s).ctx = s.ctx := rfl
@[simp] theorem setTsize_ring (v : Len) (s : State) : (setTsize v s).ring = s.ring := rfl
@[simp] theorem setTsize_cs (v : Len) (s : State) : (setTsize v s).cs = s.cs := rfl
@[simp] theorem setTsize_seq (v : Len) (s : State) : (setTsize v s).seq = s.seq := rfl
@[simp] theorem setTsize_p (v : Len) (s : State) : (setTsize v s).p = { s.p with tsize := v } := rfl
@[simp] theorem setTsize_tick (v : Len) (s : State) : (setTsize v s).tick = s.tick := rfl
@[simp] theorem setTsize_mem (v : Len) (s : State) : (setTsize v s).mem = s.mem := rfl
@[simp] theorem setTsize_history (v : Len) (s : State) : (setTsize v s).history = s.history := rfl
@[simp] theorem setTsize_rxPinned (v : Len) (s : State) : (setTsize v s).rxPinned = s.rxPinned := rfl
@[simp] theorem setTsize_rxDraws (v : Len) (s : State) : (setTsize v s).rxDraws = s.rxDraws := rfl
@[simp] theorem setTsize_agenda (v : Len) (s : State) : (setTsize v s).agenda = s.agenda := rfl
@[simp] theorem setTsize_freeMoves (v : Len) (s : State) : (setTsize v s).freeMoves = s.freeMoves := rfl
@[simp] theorem setTsize_callerStuck (v : Len) (s : State) : (setTsize v s).callerStuck = s.callerStuck := rfl
@[simp] theorem setTsize_irqStuck (v : Len) (s : State) : (setTsize v s).irqStuck = s.irqStuck := rfl
@[simp] theorem setTsize_modelFault (v : Len) (s : State) : (setTsize v s).modelFault = s.modelFault := rfl

@[simp] theorem disableAll_par (s : State) : (disableAll s).par = s.par := rfl
@[simp] theorem disableAll_ctx (s : State) : (disableAll s).ctx = s.ctx := rfl
@[simp] theorem disableAll_ring (s : State) : (disableAll s).ring = s.ring := rfl
@[simp] theorem disableAll_cs (s : State) : (disableAll s).cs = s.cs := rfl
@[simp] theorem disableAll_seq (s : State) : (disableAll s).seq = s.seq := rfl
@[simp] theorem disableAll_p (s : State) : (disableAll s).p = { s.p with ie := 0#32 &&& ieBits, spe := false } := rfl
@[simp] theorem disableAll_tick (s : State) : (disableAll s).tick = s.tick := rfl
@[simp] theorem disableAll_mem (s : State) : (disableAll s).mem = s.mem := rfl
@[simp] theorem disableAll_history (s : State) : (disableAll s).history = s.history := rfl
@[simp] theorem disableAll_rxPinned (s : State) : (disableAll s).rxPinned = s.rxPinned := rfl
@[simp] theorem disableAll_rxDraws (s : State) : (disableAll s).rxDraws = s.rxDraws := rfl
@[simp] theorem disableAll_agenda (s : State) : (disableAll s).agenda = s.agenda := rfl
@[simp] theorem disableAll_freeMoves (s : State) : (disableAll s).freeMoves = s.freeMoves := rfl
@[simp] theorem disableAll_callerStuck (s : State) : (disableAll s).callerStuck = s.callerStuck := rfl
@[simp] theorem disableAll_irqStuck (s : State) : (disableAll s).irqStuck = s.irqStuck := rfl
@[simp] theorem disableAll_modelFault (s : State) : (disableAll s).modelFault = s.modelFault := rfl

@[simp] theorem triggerStart_par (s : State) : (triggerStart s).par = s.par := rfl
@[simp] theorem triggerStart_ctx (s : State) : (triggerStart s).ctx = s.ctx := rfl
@[simp] theorem triggerStart_ring (s : State) : (triggerStart s).ring = s.ring := rfl
@[simp] theorem triggerStart_cs (s : State) : (triggerStart s).cs = s.cs := rfl
@[simp] theorem triggerStart_seq (s : State) : (triggerStart s).seq = s.seq := rfl
@[simp] theorem triggerStart_p (s : State) : (triggerStart s).p = s.p := rfl
@[simp] theorem triggerStart_tick (s : State) : (triggerStart s).tick = s.tick := rfl
@[simp] theorem triggerStart_mem (s : State) : (triggerStart s).mem = s.mem := rfl
@[simp] theorem triggerStart_history (s : State) : (triggerStart s).history = s.history ++ [.start] := rfl
@[simp] theorem triggerStart_rxPinned (s : State) : (triggerStart s).rxPinned = s.rxPinned := rfl
@[simp] theorem triggerStart_rxDraws (s : State) : (triggerStart s).rxDraws = s.rxDraws := rfl
@[simp] theorem triggerStart_agenda (s : State) : (triggerStart s).agenda = s.agenda := rfl
@[simp] theorem triggerStart_freeMoves (s : State) : (triggerStart s).freeMoves = s.freeMoves := rfl
@[simp] theorem triggerStart_callerStuck (s : State) : (triggerStart s).callerStuck = s.callerStuck := rfl
@[simp] theorem triggerStart_irqStuck (s : State) : (triggerStart s).irqStuck = s.irqStuck := rfl
@[simp] theorem triggerStart_modelFault (s : State) : (triggerStart s).modelFault = s.modelFault := rfl

@[simp] theorem writeTx_par (b : Byte) (s : State) : (writeTx b s).par = s.par := rfl
@[simp] theorem writeTx_ctx (b : Byte) (s : State) : (writeTx b s).ctx = s.ctx := rfl
@[simp] theorem writeTx_ring (b : Byte) (s : State) : (writeTx b s).ring = s.ring := rfl
@[simp] theorem writeTx_cs (b : Byte) (s : State) : (writeTx b s).cs = s.cs := rfl
@[simp] theorem writeTx_seq (b : Byte) (s : State) : (writeTx b s).seq = s.seq := rfl
@[simp] theorem writeTx_p (b : Byte) (s : State) : (writeTx b s).p = s.p := rfl
@[simp] theorem writeTx_tick (b : Byte) (s : State) : (writeTx b s).tick = s.tick := rfl
@[simp] theorem writeTx_mem (b : Byte) (s : State) : (writeTx b s).mem = s.mem := rfl
@[simp] theorem writeTx_history (b : Byte) (s : State) : (writeTx b s).history = s.history ++ [.txByte b] := rfl
@[simp] theorem writeTx_rxPinned (b : Byte) (s : State) : (writeTx b s).rxPinned = s.rxPinned := rfl
@[simp] theorem writeTx_rxDraws (b : Byte) (s : State) : (writeTx b s).rxDraws = s.rxDraws := rfl
@[simp] theorem writeTx_agenda (b : Byte) (s : State) : (writeTx b s).agenda = s.agenda := rfl
@[simp] theorem writeTx_freeMoves (b : Byte) (s : State) : (writeTx b s).freeMoves = s.freeMoves := rfl
@[simp] theorem writeTx_callerStuck (b : Byte) (s : State) : (writeTx b s).callerStuck = s.callerStuck := rfl
@[simp] theorem writeTx_irqStuck (b : Byte) (s : State) : (writeTx b s).irqStuck = s.irqStuck := rfl
@[simp] theorem writeTx_modelFault (b : Byte) (s : State) : (writeTx b s).modelFault = s.modelFault := rfl

@[simp] theorem readRx_par (s : State) : (readRx s).par = s.par := rfl
@[simp] theorem readRx_ctx (s : State) : (readRx s).ctx = s.ctx := rfl
@[simp] theorem readRx_ring (s : State) : (readRx s).ring = s.ring := rfl
@[simp] theorem readRx_cs (s : State) : (readRx s).cs = s.cs := rfl
@[simp] theorem readRx_seq (s : State) : (readRx s).seq = s.seq := rfl
@[simp] theorem readRx_p (s : State) : (readRx s).p = s.p := rfl
@[simp] theorem readRx_tick (s : State) : (readRx s).tick = s.tick := rfl
@[simp] theorem readRx_mem (s : State) : (readRx s).mem = s.mem := rfl
@[simp] theorem readRx_history (s : State) : (readRx s).history = s.history ++ [.rxByte (rxDraw s)] := rfl
@[simp] theorem readRx_rxPinned (s : State) : (readRx s).rxPinned = none := rfl
@[simp] theorem readRx_rxDraws (s : State) : (readRx s).rxDraws = s.rxDraws + 1 := rfl
@[simp] theorem readRx_agenda (s : State) : (readRx s).agenda = s.agenda := rfl
@[simp] theorem readRx_freeMoves (s : State) : (readRx s).freeMoves = s.freeMoves := rfl
@[simp] theorem readRx_callerStuck (s : State) : (readRx s).callerStuck = s.callerStuck := rfl
@[simp] theorem readRx_irqStuck (s : State) : (readRx s).irqStuck = s.irqStuck := rfl
@[simp] theorem readRx_modelFault (s : State) : (readRx s).modelFault = s.modelFault := rfl

@[simp] theorem driveCs_par (l : CsLevel) (e : Event) (s : State) : (driveCs l e s).par = s.par := rfl
@[simp] theorem driveCs_ctx (l : CsLevel) (e : Event) (s : State) : (driveCs l e s).ctx = s.ctx := rfl
@[simp] theorem driveCs_ring (l : CsLevel) (e : Event) (s : State) : (driveCs l e s).ring = s.ring := rfl
@[simp] theorem driveCs_cs (l : CsLevel) (e : Event) (s : State) : (driveCs l e s).cs = { s.cs with out := l } := rfl
@[simp] theorem driveCs_seq (l : CsLevel) (e : Event) (s : State) : (driveCs l e s).seq = s.seq := rfl
@[simp] theorem driveCs_p (l : CsLevel) (e : Event) (s : State) : (driveCs l e s).p = s.p := rfl
@[simp] theorem driveCs_tick (l : CsLevel) (e : Event) (s : State) : (driveCs l e s).tick = s.tick := rfl
@[simp] theorem driveCs_mem (l : CsLevel) (e : Event) (s : State) : (driveCs l e s).mem = s.mem := rfl
@[simp] theorem driveCs_history (l : CsLevel) (e : Event) (s : State) : (driveCs l e s).history = s.history ++ [e] := rfl
@[simp] theorem driveCs_rxPinned (l : CsLevel) (e : Event) (s : State) : (driveCs l e s).rxPinned = s.rxPinned := rfl
@[simp] theorem driveCs_rxDraws (l : CsLevel) (e : Event) (s : State) : (driveCs l e s).rxDraws = s.rxDraws := rfl
@[simp] theorem driveCs_agenda (l : CsLevel) (e : Event) (s : State) : (driveCs l e s).agenda = s.agenda := rfl
@[simp] theorem driveCs_freeMoves (l : CsLevel) (e : Event) (s : State) : (driveCs l e s).freeMoves = s.freeMoves := rfl
@[simp] theorem driveCs_callerStuck (l : CsLevel) (e : Event) (s : State) : (driveCs l e s).callerStuck = s.callerStuck := rfl
@[simp] theorem driveCs_irqStuck (l : CsLevel) (e : Event) (s : State) : (driveCs l e s).irqStuck = s.irqStuck := rfl
@[simp] theorem driveCs_modelFault (l : CsLevel) (e : Event) (s : State) : (driveCs l e s).modelFault = s.modelFault := rfl

@[simp] theorem rbWriteOp_par (b : Byte) (s : State) : (rbWriteOp b s).par = s.par := rfl
@[simp] theorem rbWriteOp_ctx (b : Byte) (s : State) : (rbWriteOp b s).ctx = s.ctx := rfl
@[simp] theorem rbWriteOp_ring (b : Byte) (s : State) : (rbWriteOp b s).ring = rbWriteRing s.par b s.ring := rfl
@[simp] theorem rbWriteOp_cs (b : Byte) (s : State) : (rbWriteOp b s).cs = s.cs := rfl
@[simp] theorem rbWriteOp_seq (b : Byte) (s : State) : (rbWriteOp b s).seq = s.seq := rfl
@[simp] theorem rbWriteOp_p (b : Byte) (s : State) : (rbWriteOp b s).p = s.p := rfl
@[simp] theorem rbWriteOp_tick (b : Byte) (s : State) : (rbWriteOp b s).tick = s.tick := rfl
@[simp] theorem rbWriteOp_mem (b : Byte) (s : State) : (rbWriteOp b s).mem = s.mem := rfl
@[simp] theorem rbWriteOp_history (b : Byte) (s : State) : (rbWriteOp b s).history = s.history := rfl
@[simp] theorem rbWriteOp_rxPinned (b : Byte) (s : State) : (rbWriteOp b s).rxPinned = s.rxPinned := rfl
@[simp] theorem rbWriteOp_rxDraws (b : Byte) (s : State) : (rbWriteOp b s).rxDraws = s.rxDraws := rfl
@[simp] theorem rbWriteOp_agenda (b : Byte) (s : State) : (rbWriteOp b s).agenda = s.agenda := rfl
@[simp] theorem rbWriteOp_freeMoves (b : Byte) (s : State) : (rbWriteOp b s).freeMoves = s.freeMoves := rfl
@[simp] theorem rbWriteOp_callerStuck (b : Byte) (s : State) : (rbWriteOp b s).callerStuck = s.callerStuck := rfl
@[simp] theorem rbWriteOp_irqStuck (b : Byte) (s : State) : (rbWriteOp b s).irqStuck = s.irqStuck := rfl
@[simp] theorem rbWriteOp_modelFault (b : Byte) (s : State) : (rbWriteOp b s).modelFault = s.modelFault := rfl

@[simp] theorem rbEmpty_par (s : State) : (rbEmpty s).par = s.par := rfl
@[simp] theorem rbEmpty_ctx (s : State) : (rbEmpty s).ctx = s.ctx := rfl
@[simp] theorem rbEmpty_ring (s : State) : (rbEmpty s).ring = { s.ring with tail := s.ring.head } := rfl
@[simp] theorem rbEmpty_cs (s : State) : (rbEmpty s).cs = s.cs := rfl
@[simp] theorem rbEmpty_seq (s : State) : (rbEmpty s).seq = s.seq := rfl
@[simp] theorem rbEmpty_p (s : State) : (rbEmpty s).p = s.p := rfl
@[simp] theorem rbEmpty_tick (s : State) : (rbEmpty s).tick = s.tick := rfl
@[simp] theorem rbEmpty_mem (s : State) : (rbEmpty s).mem = s.mem := rfl
@[simp] theorem rbEmpty_history (s : State) : (rbEmpty s).history = s.history := rfl
@[simp] theorem rbEmpty_rxPinned (s : State) : (rbEmpty s).rxPinned = s.rxPinned := rfl
@[simp] theorem rbEmpty_rxDraws (s : State) : (rbEmpty s).rxDraws = s.rxDraws := rfl
@[simp] theorem rbEmpty_agenda (s : State) : (rbEmpty s).agenda = s.agenda := rfl
@[simp] theorem rbEmpty_freeMoves (s : State) : (rbEmpty s).freeMoves = s.freeMoves := rfl
@[simp] theorem rbEmpty_callerStuck (s : State) : (rbEmpty s).callerStuck = s.callerStuck := rfl
@[simp] theorem rbEmpty_irqStuck (s : State) : (rbEmpty s).irqStuck = s.irqStuck := rfl
@[simp] theorem rbEmpty_modelFault (s : State) : (rbEmpty s).modelFault = s.modelFault := rfl

@[simp] theorem toReady_par (s : State) : (toReady s).par = s.par := rfl
@[simp] theorem toReady_ctx (s : State) : (toReady s).ctx = { s.ctx with state := .ready } := rfl
@[simp] theorem toReady_ring (s : State) : (toReady s).ring = s.ring := rfl
@[simp] theorem toReady_cs (s : State) : (toReady s).cs = s.cs := rfl
@[simp] theorem toReady_seq (s : State) : (toReady s).seq = s.seq := rfl
@[simp] theorem toReady_p (s : State) : (toReady s).p = s.p := rfl
@[simp] theorem toReady_tick (s : State) : (toReady s).tick = s.tick := rfl
@[simp] theorem toReady_mem (s : State) : (toReady s).mem = s.mem := rfl
@[simp] theorem toReady_history (s : State) : (toReady s).history = s.history := rfl
@[simp] theorem toReady_rxPinned (s : State) : (toReady s).rxPinned = s.rxPinned := rfl
@[simp] theorem toReady_rxDraws (s : State) : (toReady s).rxDraws = s.rxDraws := rfl
@[simp] theorem toReady_agenda (s : State) : (toReady s).agenda = s.agenda := rfl
@[simp] theorem toReady_freeMoves (s : State) : (toReady s).freeMoves = s.freeMoves := rfl
@[simp] theorem toReady_callerStuck (s : State) : (toReady s).callerStuck = s.callerStuck := rfl
@[simp] theorem toReady_irqStuck (s : State) : (toReady s).irqStuck = s.irqStuck := rfl
@[simp] theorem toReady_modelFault (s : State) : (toReady s).modelFault = s.modelFault := rfl

@[simp] theorem setDone_par (s : State) : (setDone s).par = s.par := rfl
@[simp] theorem setDone_ctx (s : State) : (setDone s).ctx = { s.ctx with txDone := true, rxDone := true } := rfl
@[simp] theorem setDone_ring (s : State) : (setDone s).ring = s.ring := rfl
@[simp] theorem setDone_cs (s : State) : (setDone s).cs = s.cs := rfl
@[simp] theorem setDone_seq (s : State) : (setDone s).seq = s.seq := rfl
@[simp] theorem setDone_p (s : State) : (setDone s).p = s.p := rfl
@[simp] theorem setDone_tick (s : State) : (setDone s).tick = s.tick := rfl
@[simp] theorem setDone_mem (s : State) : (setDone s).mem = s.mem := rfl
@[simp] theorem setDone_history (s : State) : (setDone s).history = s.history := rfl
@[simp] theorem setDone_rxPinned (s : State) : (setDone s).rxPinned = s.rxPinned := rfl
@[simp] theorem setDone_rxDraws (s : State) : (setDone s).rxDraws = s.rxDraws := rfl
@[simp] theorem setDone_agenda (s : State) : (setDone s).agenda = s.agenda := rfl
@[simp] theorem setDone_freeMoves (s : State) : (setDone s).freeMoves = s.freeMoves := rfl
@[simp] theorem setDone_callerStuck (s : State) : (setDone s).callerStuck = s.callerStuck := rfl
@[simp] theorem setDone_irqStuck (s : State) : (setDone s).irqStuck = s.irqStuck := rfl
@[simp] theorem setDone_modelFault (s : State) : (setDone s).modelFault = s.modelFault := rfl

@[simp] theorem countTimeout_par (s : State) : (countTimeout s).par = s.par := rfl
@[simp] theorem countTimeout_ctx (s : State) : (countTimeout s).ctx = { s.ctx with timeoutCount := s.ctx.timeoutCount + 1#32, lastErr := .timeout } := rfl
@[simp] theorem countTimeout_ring (s : State) : (countTimeout s).ring = s.ring := rfl
@[simp] theorem countTimeout_cs (s : State) : (countTimeout s).cs = s.cs := rfl
@[simp] theorem countTimeout_seq (s : State) : (countTimeout s).seq = s.seq := rfl
@[simp] theorem countTimeout_p (s : State) : (countTimeout s).p = s.p := rfl
@[simp] theorem countTimeout_tick (s : State) : (countTimeout s).tick = s.tick := rfl
@[simp] theorem countTimeout_mem (s : State) : (countTimeout s).mem = s.mem := rfl
@[simp] theorem countTimeout_history (s : State) : (countTimeout s).history = s.history := rfl
@[simp] theorem countTimeout_rxPinned (s : State) : (countTimeout s).rxPinned = s.rxPinned := rfl
@[simp] theorem countTimeout_rxDraws (s : State) : (countTimeout s).rxDraws = s.rxDraws := rfl
@[simp] theorem countTimeout_agenda (s : State) : (countTimeout s).agenda = s.agenda := rfl
@[simp] theorem countTimeout_freeMoves (s : State) : (countTimeout s).freeMoves = s.freeMoves := rfl
@[simp] theorem countTimeout_callerStuck (s : State) : (countTimeout s).callerStuck = s.callerStuck := rfl
@[simp] theorem countTimeout_irqStuck (s : State) : (countTimeout s).irqStuck = s.irqStuck := rfl
@[simp] theorem countTimeout_modelFault (s : State) : (countTimeout s).modelFault = s.modelFault := rfl

@[simp] theorem release_par (r : Bool) (k : ErrKind) (s : State) : (release r k s).par = s.par := rfl
@[simp] theorem release_ctx (r : Bool) (k : ErrKind) (s : State) : (release r k s).ctx = { s.ctx with result := r } := rfl
@[simp] theorem release_ring (r : Bool) (k : ErrKind) (s : State) : (release r k s).ring = s.ring := rfl
@[simp] theorem release_cs (r : Bool) (k : ErrKind) (s : State) : (release r k s).cs = s.cs := rfl
@[simp] theorem release_seq (r : Bool) (k : ErrKind) (s : State) : (release r k s).seq = { phase := .idle, kind := .none, response := responseWord r k 0#16 } := rfl
@[simp] theorem release_p (r : Bool) (k : ErrKind) (s : State) : (release r k s).p = s.p := rfl
@[simp] theorem release_tick (r : Bool) (k : ErrKind) (s : State) : (release r k s).tick = s.tick := rfl
@[simp] theorem release_mem (r : Bool) (k : ErrKind) (s : State) : (release r k s).mem = s.mem := rfl
@[simp] theorem release_history (r : Bool) (k : ErrKind) (s : State) : (release r k s).history = s.history ++ [.release s.seq.kind r] := rfl
@[simp] theorem release_rxPinned (r : Bool) (k : ErrKind) (s : State) : (release r k s).rxPinned = s.rxPinned := rfl
@[simp] theorem release_rxDraws (r : Bool) (k : ErrKind) (s : State) : (release r k s).rxDraws = s.rxDraws := rfl
@[simp] theorem release_agenda (r : Bool) (k : ErrKind) (s : State) : (release r k s).agenda = s.agenda := rfl
@[simp] theorem release_freeMoves (r : Bool) (k : ErrKind) (s : State) : (release r k s).freeMoves = s.freeMoves := rfl
@[simp] theorem release_callerStuck (r : Bool) (k : ErrKind) (s : State) : (release r k s).callerStuck = s.callerStuck := rfl
@[simp] theorem release_irqStuck (r : Bool) (k : ErrKind) (s : State) : (release r k s).irqStuck = s.irqStuck := rfl
@[simp] theorem release_modelFault (r : Bool) (k : ErrKind) (s : State) : (release r k s).modelFault = s.modelFault := rfl

@[simp] theorem tickOp_par (s : State) : (tickOp s).par = s.par := rfl
@[simp] theorem tickOp_ctx (s : State) : (tickOp s).ctx = s.ctx := rfl
@[simp] theorem tickOp_ring (s : State) : (tickOp s).ring = s.ring := rfl
@[simp] theorem tickOp_cs (s : State) : (tickOp s).cs = s.cs := rfl
@[simp] theorem tickOp_seq (s : State) : (tickOp s).seq = s.seq := rfl
@[simp] theorem tickOp_p (s : State) : (tickOp s).p = s.p := rfl
@[simp] theorem tickOp_tick (s : State) : (tickOp s).tick = s.tick + 1#32 := rfl
@[simp] theorem tickOp_mem (s : State) : (tickOp s).mem = s.mem := rfl
@[simp] theorem tickOp_history (s : State) : (tickOp s).history = s.history ++ [.tick] := rfl
@[simp] theorem tickOp_rxPinned (s : State) : (tickOp s).rxPinned = s.rxPinned := rfl
@[simp] theorem tickOp_rxDraws (s : State) : (tickOp s).rxDraws = s.rxDraws := rfl
@[simp] theorem tickOp_agenda (s : State) : (tickOp s).agenda = s.agenda := rfl
@[simp] theorem tickOp_freeMoves (s : State) : (tickOp s).freeMoves = s.freeMoves := rfl
@[simp] theorem tickOp_callerStuck (s : State) : (tickOp s).callerStuck = s.callerStuck := rfl
@[simp] theorem tickOp_irqStuck (s : State) : (tickOp s).irqStuck = s.irqStuck := rfl
@[simp] theorem tickOp_modelFault (s : State) : (tickOp s).modelFault = s.modelFault := rfl

@[simp] theorem periphOp_par (set clr : Reg) (rx : Option Byte) (s : State) : (periphOp set clr rx s).par = s.par := rfl
@[simp] theorem periphOp_ctx (set clr : Reg) (rx : Option Byte) (s : State) : (periphOp set clr rx s).ctx = s.ctx := rfl
@[simp] theorem periphOp_ring (set clr : Reg) (rx : Option Byte) (s : State) : (periphOp set clr rx s).ring = s.ring := rfl
@[simp] theorem periphOp_cs (set clr : Reg) (rx : Option Byte) (s : State) : (periphOp set clr rx s).cs = s.cs := rfl
@[simp] theorem periphOp_seq (set clr : Reg) (rx : Option Byte) (s : State) : (periphOp set clr rx s).seq = s.seq := rfl
@[simp] theorem periphOp_p (set clr : Reg) (rx : Option Byte) (s : State) : (periphOp set clr rx s).p = { s.p with sr := (s.p.sr ||| set) &&& ~~~ clr } := rfl
@[simp] theorem periphOp_tick (set clr : Reg) (rx : Option Byte) (s : State) : (periphOp set clr rx s).tick = s.tick := rfl
@[simp] theorem periphOp_mem (set clr : Reg) (rx : Option Byte) (s : State) : (periphOp set clr rx s).mem = s.mem := rfl
@[simp] theorem periphOp_history (set clr : Reg) (rx : Option Byte) (s : State) : (periphOp set clr rx s).history = s.history := rfl
@[simp] theorem periphOp_rxPinned (set clr : Reg) (rx : Option Byte) (s : State) : (periphOp set clr rx s).rxPinned = (rx <|> s.rxPinned) := rfl
@[simp] theorem periphOp_rxDraws (set clr : Reg) (rx : Option Byte) (s : State) : (periphOp set clr rx s).rxDraws = s.rxDraws := rfl
@[simp] theorem periphOp_agenda (set clr : Reg) (rx : Option Byte) (s : State) : (periphOp set clr rx s).agenda = s.agenda := rfl
@[simp] theorem periphOp_freeMoves (set clr : Reg) (rx : Option Byte) (s : State) : (periphOp set clr rx s).freeMoves = s.freeMoves := rfl
@[simp] theorem periphOp_callerStuck (set clr : Reg) (rx : Option Byte) (s : State) : (periphOp set clr rx s).callerStuck = s.callerStuck := rfl
@[simp] theorem periphOp_irqStuck (set clr : Reg) (rx : Option Byte) (s : State) : (periphOp set clr rx s).irqStuck = s.irqStuck := rfl
@[simp] theorem periphOp_modelFault (set clr : Reg) (rx : Option Byte) (s : State) : (periphOp set clr rx s).modelFault = s.modelFault := rfl

@[simp] theorem recordModelFault_par (s : State) : (recordModelFault s).par = s.par := rfl
@[simp] theorem recordModelFault_ctx (s : State) : (recordModelFault s).ctx = s.ctx := rfl
@[simp] theorem recordModelFault_ring (s : State) : (recordModelFault s).ring = s.ring := rfl
@[simp] theorem recordModelFault_cs (s : State) : (recordModelFault s).cs = s.cs := rfl
@[simp] theorem recordModelFault_seq (s : State) : (recordModelFault s).seq = s.seq := rfl
@[simp] theorem recordModelFault_p (s : State) : (recordModelFault s).p = s.p := rfl
@[simp] theorem recordModelFault_tick (s : State) : (recordModelFault s).tick = s.tick := rfl
@[simp] theorem recordModelFault_mem (s : State) : (recordModelFault s).mem = s.mem := rfl
@[simp] theorem recordModelFault_history (s : State) : (recordModelFault s).history = s.history := rfl
@[simp] theorem recordModelFault_rxPinned (s : State) : (recordModelFault s).rxPinned = s.rxPinned := rfl
@[simp] theorem recordModelFault_rxDraws (s : State) : (recordModelFault s).rxDraws = s.rxDraws := rfl
@[simp] theorem recordModelFault_agenda (s : State) : (recordModelFault s).agenda = s.agenda := rfl
@[simp] theorem recordModelFault_freeMoves (s : State) : (recordModelFault s).freeMoves = s.freeMoves := rfl
@[simp] theorem recordModelFault_callerStuck (s : State) : (recordModelFault s).callerStuck = s.callerStuck := rfl
@[simp] theorem recordModelFault_irqStuck (s : State) : (recordModelFault s).irqStuck = s.irqStuck := rfl
@[simp] theorem recordModelFault_modelFault (s : State) : (recordModelFault s).modelFault = (s.modelFault || !legalState s.ctx.state || !legalLastErr s.ctx.lastErr) := rfl

end Sys2Proof.Machine
end

