-- ==== Sys2Proof/Laws/Memory.lean ====
section
/-! SUPPORT. Caller memory: a read after a write, and that every operation keeps the canonical form. -/
namespace Sys2Proof.Machine

theorem cellRead_of_below (m : List Host.Cell) (a : Nat) (h : ∀ c ∈ m, a < c.1) : cellRead m a = unlistedByte := by
  induction m with
  | nil => rfl
  | cons c rest ih =>
    obtain ⟨b, w⟩ := c
    have hb : a < b := h (b, w) (by simp)
    simp only [cellRead]
    rw [if_neg (by omega)]
    exact ih (fun c hc => h c (by simp [hc]))

/-- A read after a write: the byte written at its address, what was there before everywhere else. -/
theorem cellRead_cellWrite (m : List Host.Cell) (a b : Nat) (v : Byte) (h : m.Pairwise (fun c d => c.1 < d.1)) :
    cellRead (cellWrite m a v) b = if b = a then v else cellRead m b := by
  induction m with
  | nil =>
    by_cases hv : v = unlistedByte
    · simp [cellWrite, cellRead, hv]
    · simp [cellWrite, cellRead, hv]
  | cons c rest ih =>
    obtain ⟨k, w⟩ := c
    rw [List.pairwise_cons] at h
    obtain ⟨hk, hrest⟩ := h
    by_cases h1 : a < k
    · by_cases hv : v = unlistedByte
      · rw [cellWrite, if_pos h1, if_pos hv]
        by_cases hb : b = a
        · subst hb
          rw [if_pos rfl, hv]
          refine cellRead_of_below _ _ ?_
          intro c hc
          rcases List.mem_cons.mp hc with rfl | hc
          · exact h1
          · exact Nat.lt_trans h1 (hk c hc)
        · rw [if_neg hb]
      · rw [cellWrite, if_pos h1, if_neg hv, cellRead]
    · by_cases h2 : a = k
      · subst h2
        by_cases hv : v = unlistedByte
        · rw [cellWrite, if_neg h1, if_pos rfl, if_pos hv]
          by_cases hb : b = a
          · subst hb
            rw [if_pos rfl, hv, cellRead_of_below rest b hk]
          · rw [if_neg hb, cellRead, if_neg hb]
        · rw [cellWrite, if_neg h1, if_pos rfl, if_neg hv, cellRead, cellRead]
          by_cases hb : b = a
          · simp [hb]
          · simp [hb]
      · rw [cellWrite, if_neg h1, if_neg h2, cellRead, cellRead, ih hrest]
        by_cases hb : b = k
        · rw [if_pos hb, if_pos hb, if_neg (by omega)]
        · rw [if_neg hb, if_neg hb]

theorem mem_cellWrite (m : List Host.Cell) (a : Nat) (v : Byte) (c : Host.Cell) (h : c ∈ cellWrite m a v) :
    c ∈ m ∨ (c = (a, v) ∧ v ≠ unlistedByte) := by
  induction m with
  | nil =>
    by_cases hv : v = unlistedByte
    · simp [cellWrite, hv] at h
    · simp [cellWrite, hv] at h
      exact .inr ⟨h, hv⟩
  | cons d rest ih =>
    obtain ⟨k, w⟩ := d
    rw [cellWrite] at h
    split at h
    · split at h
      · exact .inl h
      · rcases List.mem_cons.mp h with rfl | h
        · exact .inr ⟨rfl, ‹_›⟩
        · exact .inl h
    · split at h
      · split at h
        · exact .inl (List.mem_cons_of_mem _ h)
        · rcases List.mem_cons.mp h with rfl | h
          · exact .inr ⟨rfl, ‹_›⟩
          · exact .inl (List.mem_cons_of_mem _ h)
      · rcases List.mem_cons.mp h with rfl | h
        · exact .inl (List.mem_cons_self ..)
        · rcases ih h with h | h
          · exact .inl (List.mem_cons_of_mem _ h)
          · exact .inr h

theorem cellWrite_pairwise (m : List Host.Cell) (a : Nat) (v : Byte) (h : m.Pairwise (fun c d => c.1 < d.1)) :
    (cellWrite m a v).Pairwise (fun c d => c.1 < d.1) := by
  induction m with
  | nil =>
    rw [cellWrite]
    split <;> simp
  | cons d rest ih =>
    obtain ⟨k, w⟩ := d
    have hall := h
    rw [List.pairwise_cons] at h
    obtain ⟨hk, hrest⟩ := h
    rw [cellWrite]
    split
    · split
      · exact hall
      · refine List.pairwise_cons.mpr ⟨?_, hall⟩
        intro c hc
        rcases List.mem_cons.mp hc with rfl | hc
        · assumption
        · exact Nat.lt_trans ‹_› (hk c hc)
    · split
      · split
        · exact hrest
        · refine List.pairwise_cons.mpr ⟨?_, hrest⟩
          intro c hc
          subst_vars
          exact hk c hc
      · refine List.pairwise_cons.mpr ⟨?_, ih hrest⟩
        intro c hc
        rcases mem_cellWrite _ _ _ _ hc with hc | ⟨rfl, -⟩
        · exact hk c hc
        · show k < a
          omega

/-- A write keeps the canonical form. -/
theorem cellWrite_wf (m : List Host.Cell) (a : Addr) (v : Byte) (h : Memory.wf m) : Memory.wf (cellWrite m a.toNat v) := by
  refine ⟨cellWrite_pairwise _ _ _ h.1, ?_⟩
  intro c hc
  rcases mem_cellWrite _ _ _ _ hc with hc | ⟨rfl, hv⟩
  · exact h.2 c hc
  · exact ⟨a.isLt, hv⟩

/-- Reset memory is canonical. -/
theorem resetWith_memory_wf (par : Params) : Memory.wf (State.resetWith par).mem :=
  ⟨List.Pairwise.nil, fun _ hc => absurd hc (by simp [State.resetWith])⟩

theorem setByte_wf (s : State) (a : Addr) (v : Byte) (h : Memory.wf s.mem) : Memory.wf (setByte s a v).mem :=
  cellWrite_wf _ _ _ h

/-- The byte at an address after a byte has been replaced. -/
theorem byteAt_setByte (s : State) (a b : Addr) (v : Byte) (h : Memory.wf s.mem) :
    byteAt (setByte s a v) b = if b = a then v else byteAt s b := by
  show cellRead (cellWrite s.mem a.toNat v) b.toNat = _
  rw [cellRead_cellWrite _ _ _ _ h.1]
  by_cases hb : b = a
  · simp [hb]
  · rw [if_neg hb, if_neg (fun h => hb (BitVec.eq_of_toNat_eq h))]
    rfl

/-- Everything a store of the agents' can do: the address has memory, and the byte and its event are the only changes. -/
theorem memWrite_some {a : Addr} {v : Byte} {s t : State} (h : memWrite a v s = some t) :
    memAdmits s.par a = true ∧ t = emit (.memWr a v) (setByte s a v) := by
  rw [memWrite] at h
  split at h
  · exact ⟨‹_›, (Option.some.inj h).symm⟩
  · exact absurd h (by simp)

/-- Everything a read of the agents' can do: the address has memory, and its event is the only change. -/
theorem memRead_some {a : Addr} {s : State} {r : Byte × State} (h : memRead a s = some r) :
    memAdmits s.par a = true ∧ r = (byteAt s a, emit (.memRd a (byteAt s a)) s) := by
  rw [memRead] at h
  split at h
  · exact ⟨‹_›, (Option.some.inj h).symm⟩
  · exact absurd h (by simp)

/-- What a run of stores does: only memory and the history change, and memory stays canonical. -/
theorem memWriteAll_some {a : Addr} {vs : List Byte} {s t : State} (h : memWriteAll a vs s = some t) :
    (∃ es, t = { s with mem := t.mem, history := s.history ++ es }) ∧ (Memory.wf s.mem → Memory.wf t.mem) := by
  induction vs generalizing a s with
  | nil =>
    obtain rfl : s = t := Option.some.inj h
    exact ⟨⟨[], by simp⟩, id⟩
  | cons v vs ih =>
    rw [memWriteAll] at h
    cases hw : memWrite a v s with
    | none => rw [hw] at h; exact absurd h (by simp)
    | some s1 =>
      rw [hw] at h
      obtain ⟨-, rfl⟩ := memWrite_some hw
      obtain ⟨⟨es, ht⟩, hwf⟩ := ih h
      refine ⟨⟨Event.memWr a v :: es, ?_⟩, fun hs => hwf (setByte_wf s a v hs)⟩
      rw [ht]
      simp

end Sys2Proof.Machine
end

