-- ==== Sys2Proof/Laws/Ops.lean ====
section
/-! SUPPORT. One lemma per shared operation that says everything it can do, so that no proof unfolds one. -/
namespace Sys2Proof.Machine

/-! ## Gates -/

/-- What a command on the port can do: its body, with the port open. -/
theorem onPort_next {f : State → State} {s t : State} (h : onPort f s = .next t) : PortOpen s ∧ t = f s := by
  rw [onPort] at h
  split at h
  · cases h
  · split at h
    · cases h
    · cases h
      refine ⟨⟨Bool.eq_false_iff.mpr ‹_›, ?_⟩, rfl⟩
      cases hp : s.seq.phase
      · rfl
      · exact absurd hp ‹_›

theorem onPort_open {f : State → State} {s : State} (h : PortOpen s) : onPort f s = .next (f s) := by
  rw [onPort, if_neg (by simp [h.1]), if_neg (by simp [h.2])]

theorem onPort_waiting {f : State → State} {s : State} (h : s.callerStuck = false) (hw : s.seq.phase = .wait) :
    onPort f s = .fault .commandWhileWaiting := by
  rw [onPort, if_neg (by simp [h]), if_pos hw]

theorem onPort_stuck {f : State → State} {s : State} (h : s.callerStuck = true) :
    onPort f s = .fault .callerHasNoStep := by
  rw [onPort, if_pos h]

theorem ifInited_cases (f : State → State) (s : State) :
    (s.ctx.inited = true ∧ ifInited f s = f s) ∨ (s.ctx.inited = false ∧ ifInited f s = invalidRequest s) := by
  rw [ifInited]
  split
  · exact .inl ⟨‹_›, rfl⟩
  · exact .inr ⟨Bool.eq_false_iff.mpr ‹_›, rfl⟩

theorem csCommand_cases (f : State → State) (s : State) :
    (s.ctx.state = .ready ∧ csCommand f s = respond true .none 0#16 (f s))
      ∨ (s.ctx.state ≠ .ready ∧ csCommand f s = invalidRequest s) := by
  rw [csCommand]
  split
  · exact .inl ⟨‹_›, rfl⟩
  · exact .inr ⟨‹_›, rfl⟩

theorem execPoll_next {s t : State} (h : execPoll s = .next t) : Waiting s ∧ t = pollStep s := by
  rw [execPoll] at h
  split at h
  · cases h
  · split at h
    · cases h
      exact ⟨⟨Bool.eq_false_iff.mpr ‹_›, ‹_›⟩, rfl⟩
    · cases h

theorem execIrq_next {s t : State} (h : execIrq s = .next t) : IrqReady s ∧ t = orIrqStuck (invocation s) s := by
  rw [execIrq] at h
  split at h
  · cases h
  · split at h
    · cases h
      exact ⟨⟨Bool.eq_false_iff.mpr ‹_›, ‹_›⟩, rfl⟩
    · cases h

theorem execPoll_stuck {s : State} (h : s.callerStuck = true) : execPoll s = .fault .callerHasNoStep := by
  rw [execPoll, if_pos h]

theorem execIrq_stuck {s : State} (h : s.irqStuck = true) : execIrq s = .fault .irqHasNoStep := by
  rw [execIrq, if_pos h]

theorem execIrq_ready {s : State} (h : IrqReady s) : execIrq s = .next (orIrqStuck (invocation s) s) := by
  rw [execIrq, if_neg (by simp [h.1]), if_pos h.2]

/-! ## Chip select -/

theorem csAssert_cases (s : State) :
    (s.cs.sw = true ∧ s.cs.out ≠ .low ∧ csAssert s = driveCs .low .csLow s)
      ∨ (¬ (s.cs.sw = true ∧ s.cs.out ≠ .low) ∧ csAssert s = s) := by
  rw [csAssert]
  split
  · rename_i h
    exact .inl ⟨h.1, h.2, rfl⟩
  · exact .inr ⟨‹_›, rfl⟩

theorem csDeassert_cases (s : State) :
    (s.cs.sw = true ∧ s.cs.out ≠ .high ∧ csDeassert s = driveCs .high .csHigh s)
      ∨ (¬ (s.cs.sw = true ∧ s.cs.out ≠ .high) ∧ csDeassert s = s) := by
  rw [csDeassert]
  split
  · rename_i h
    exact .inl ⟨h.1, h.2, rfl⟩
  · exact .inr ⟨‹_›, rfl⟩

/-- `CS.assert()` changes the line's level and the history, by at most one `CsLow`. -/
theorem csAssert_frame (s : State) :
    csAssert s = { s with
      cs := { s.cs with out := if s.cs.sw = true then .low else s.cs.out }
      history := s.history ++ (if s.cs.sw = true ∧ s.cs.out ≠ .low then [.csLow] else []) } := by
  rcases csAssert_cases s with ⟨h1, h2, h⟩ | ⟨h1, h⟩
  · rw [h, if_pos h1, if_pos ⟨h1, h2⟩]; rfl
  · rw [h, if_neg h1]
    by_cases hs : s.cs.sw = true
    · have ho : s.cs.out = .low := by
        by_contra hne
        exact h1 ⟨hs, hne⟩
      rw [if_pos hs, ← ho]; simp
    · rw [if_neg hs]; simp

/-- `CS.deassert()` changes the line's level and the history, by at most one `CsHigh`. -/
theorem csDeassert_frame (s : State) :
    csDeassert s = { s with
      cs := { s.cs with out := if s.cs.sw = true then .high else s.cs.out }
      history := s.history ++ (if s.cs.sw = true ∧ s.cs.out ≠ .high then [.csHigh] else []) } := by
  rcases csDeassert_cases s with ⟨h1, h2, h⟩ | ⟨h1, h⟩
  · rw [h, if_pos h1, if_pos ⟨h1, h2⟩]; rfl
  · rw [h, if_neg h1]
    by_cases hs : s.cs.sw = true
    · have ho : s.cs.out = .high := by
        by_contra hne
        exact h1 ⟨hs, hne⟩
      rw [if_pos hs, ← ho]; simp
    · rw [if_neg hs]; simp

/-- `CS.init` changes the line's fields and the history, by one `CsHigh` when software-managed. -/
theorem csConfigure_frame (sw : Bool) (port pin : BitVec 4) (s : State) :
    csConfigure sw port pin s = { s with
      cs :=
        if sw = true then { sw := true, port := port, pin := pin, clk := true, out := .high }
        else { sw := false, port := 0#4, pin := 0#4, clk := s.cs.clk, out := .undriven }
      history := s.history ++ (if sw = true then [.csHigh] else []) } := by
  rw [csConfigure]
  split <;> simp [driveCs, emit]

/-! ## The peripheral's flags -/

/-- Clearing a list of flags changes `P.SR` and the history, by one `Clear` each. -/
theorem clearFlagsEv_frame (fs : List SrFlag) (s : State) :
    clearFlagsEv fs s = { s with
      p := { s.p with sr := fs.foldl (fun r f => if clearable f then dropFlag f r else r) s.p.sr }
      history := s.history ++ fs.map .clear } := by
  induction fs generalizing s with
  | nil => simp [clearFlagsEv]
  | cons f fs ih =>
    rw [clearFlagsEv, ih]
    simp [clearFlagEv, emit, clearFlag]

/-! ## Byte moves -/

/-- The transmit cursor's advance changes the two cursor fields and the enables. -/
theorem txAdvance_frame (s : State) :
    txAdvance s = { s with
      ctx := { s.ctx with txIdx := s.ctx.txIdx + 1#16, txRemaining := s.ctx.txRemaining - 1#16 }
      p := { s.p with
        ie := if s.ctx.txRemaining - 1#16 = 0#16 then dropFlag .dxp (dropFlag .txp s.p.ie) else s.p.ie } } := by
  rw [txAdvance]
  simp only
  split <;> rfl

/-- The receive cursor's advance changes the two cursor fields and the enables. -/
theorem rxAdvance_frame (s : State) :
    rxAdvance s = { s with
      ctx := { s.ctx with rxIdx := s.ctx.rxIdx + 1#16, rxRemaining := s.ctx.rxRemaining - 1#16 }
      p := { s.p with
        ie := if s.ctx.rxRemaining - 1#16 = 0#16 then dropFlag .dxp (dropFlag .rxp s.p.ie) else s.p.ie } } := by
  rw [rxAdvance]
  simp only
  split <;> rfl

/-- Everything `tx_move()` can do. -/
theorem txMove_some {s t : State} (h : txMove s = some t) :
    memAdmits s.par (txAddr s.ctx) = true
      ∧ t = txAdvance (writeTx (byteAt s (txAddr s.ctx)) (emit (.memRd (txAddr s.ctx) (byteAt s (txAddr s.ctx))) s)) := by
  rw [txMove] at h
  cases hr : memRead (txAddr s.ctx) s with
  | none => rw [hr] at h; exact absurd h (by simp)
  | some r =>
    obtain ⟨ha, rfl⟩ := memRead_some hr
    rw [hr] at h
    exact ⟨ha, (Option.some.inj h).symm⟩

/-- Everything the delivery of a received byte can do. -/
theorem rxDeliver_some {v : Byte} {s t : State} (h : rxDeliver v s = some t) :
    (s.par.rxViaRb = true ∧ t = rbWriteOp v s)
      ∨ (s.par.rxViaRb = false ∧ s.ctx.rxPresent = true ∧ memAdmits s.par (rxAddr s.ctx) = true
          ∧ t = emit (.memWr (rxAddr s.ctx) v) (setByte s (rxAddr s.ctx) v))
      ∨ (s.par.rxViaRb = false ∧ s.ctx.rxPresent = false ∧ t = s) := by
  rw [rxDeliver] at h
  split at h
  · exact .inl ⟨‹_›, (Option.some.inj h).symm⟩
  · split at h
    · obtain ⟨ha, ht⟩ := memWrite_some h
      exact .inr (.inl ⟨Bool.eq_false_iff.mpr ‹_›, ‹_›, ha, ht⟩)
    · exact .inr (.inr ⟨Bool.eq_false_iff.mpr ‹_›, Bool.eq_false_iff.mpr ‹_›, (Option.some.inj h).symm⟩)

/-- Everything `rx_move()` can do: the byte is drawn, delivered, and the cursor advanced. -/
theorem rxMove_some {s t : State} (h : rxMove s = some t) :
    ∃ u, rxDeliver (rxDraw s) (readRx s) = some u ∧ t = rxAdvance u := by
  rw [rxMove] at h
  cases hr : rxDeliver (rxDraw s) (readRx s) with
  | none => rw [hr] at h; exact absurd h (by simp)
  | some u =>
    rw [hr] at h
    exact ⟨u, rfl, (Option.some.inj h).symm⟩

theorem txMoveIf_some {s t : State} (h : txMoveIf s = some t) :
    (s.ctx.txRemaining = 0#16 ∧ t = s) ∨ (s.ctx.txRemaining ≠ 0#16 ∧ txMove s = some t) := by
  rw [txMoveIf] at h
  split at h
  · exact .inl ⟨‹_›, (Option.some.inj h).symm⟩
  · exact .inr ⟨‹_›, h⟩

theorem rxMoveIf_some {s t : State} (h : rxMoveIf s = some t) :
    (s.ctx.rxRemaining = 0#16 ∧ t = s) ∨ (s.ctx.rxRemaining ≠ 0#16 ∧ rxMove s = some t) := by
  rw [rxMoveIf] at h
  split at h
  · exact .inl ⟨‹_›, (Option.some.inj h).symm⟩
  · exact .inr ⟨‹_›, h⟩

/-! ## Exits of a transfer and the handler -/

theorem finalizeOp_cases (s : State) :
    (hasFlag .eot s.p.sr = true
        ∧ finalizeOp s = toReady (setDone (disableAll (clearFlagEv .eot (csDeassert s)))))
      ∨ (hasFlag .eot s.p.sr = false ∧ finalizeOp s = s) := by
  rw [finalizeOp]
  split
  · exact .inl ⟨‹_›, rfl⟩
  · exact .inr ⟨Bool.eq_false_iff.mpr ‹_›, rfl⟩

theorem completeHandled_cases (s : State) :
    completeHandled s = s
      ∨ (s.ctx.txRemaining = 0#16 ∧ s.ctx.rxRemaining = 0#16
          ∧ (completeHandled s = finalizeOp s ∨ completeHandled s = cleanupOp s)) := by
  rw [completeHandled]
  split
  · rename_i h
    refine .inr ⟨h.1, h.2, ?_⟩
    split
    · exact .inl rfl
    · exact .inr rfl
  · exact .inl rfl

theorem errorHandler_cases (sr0 : Reg) (s : State) :
    errorHandler sr0 s = clearFlagEv .susp s ∨ errorHandler sr0 s = s
      ∨ ∃ f fs, errFlags sr0 = f :: fs ∧ errorHandler sr0 s = recover f fs s := by
  rw [errorHandler]
  split
  · exact .inl rfl
  · split
    · exact .inr (.inl rfl)
    · exact .inr (.inr ⟨_, _, ‹_›, rfl⟩)

/-- Everything an invocation can do: bytes moved and step 5, or step 6. -/
theorem invocation_some {s t : State} (h : invocation s = some t) :
    (∃ u v, txMoveIf s = some u ∧ rxMoveIf u = some v ∧ t = completeHandled v)
      ∨ (∃ v, rxMoveIf s = some v ∧ t = completeHandled v)
      ∨ (∃ v, txMoveIf s = some v ∧ t = completeHandled v)
      ∨ t = stepSix s.p.sr s := by
  rw [invocation] at h
  split at h
  · obtain ⟨v, hv, rfl⟩ := Option.map_eq_some_iff.mp h
    obtain ⟨u, hu, hv⟩ := Option.bind_eq_some_iff.mp hv
    exact .inl ⟨u, v, hu, hv, rfl⟩
  · split at h
    · obtain ⟨v, hv, rfl⟩ := Option.map_eq_some_iff.mp h
      exact .inr (.inl ⟨v, hv, rfl⟩)
    · split at h
      · obtain ⟨v, hv, rfl⟩ := Option.map_eq_some_iff.mp h
        exact .inr (.inr (.inl ⟨v, hv, rfl⟩))
      · exact .inr (.inr (.inr (Option.some.inj h).symm))

/-! ## Starting, waiting, draining -/

theorem start_cases (kind : CmdKind) (sl : Len) (sa : Addr) (rl : Len) (ra : Addr) (s : State) :
    (startLegal s sl sa rl ra = true ∧ start kind sl sa rl ra s = startTransfer kind sl sa rl ra s)
      ∨ (startLegal s sl sa rl ra = false ∧ start kind sl sa rl ra s = invalidRequest s) := by
  rw [start]
  split
  · exact .inl ⟨‹_›, rfl⟩
  · exact .inr ⟨Bool.eq_false_iff.mpr ‹_›, rfl⟩

theorem pollStep_cases (s : State) :
    (s.ctx.xferErr = true ∧ pollStep s = release false s.ctx.lastErr s)
      ∨ (s.ctx.xferErr = false ∧ s.ctx.txDone = true ∧ s.ctx.rxDone = true ∧ pollStep s = release true .none s)
      ∨ (timedOut s = true ∧ pollStep s = release false .timeout (countTimeout s))
      ∨ pollStep s = s := by
  rw [pollStep]
  split
  · exact .inl ⟨‹_›, rfl⟩
  · split
    · rename_i h1 h2
      exact .inr (.inl ⟨Bool.eq_false_iff.mpr h1, h2.1, h2.2, rfl⟩)
    · split
      · exact .inr (.inr (.inl ⟨‹_›, rfl⟩))
      · exact .inr (.inr (.inr rfl))

theorem drainCommand_cases (d : Addr) (s : State) :
    drainCommand d s = invalidRequest s ∨ drainCommand d s = { s with callerStuck := true }
      ∨ ∃ t, memWriteAll d (rbUnread s.par s.ring) s = some t
          ∧ drainCommand d s = respond true .none (rbCount s.par s.ring) (rbEmpty t) := by
  rw [drainCommand]
  split
  · exact .inl rfl
  · rw [rbDrain]
    cases h : memWriteAll d (rbUnread s.par s.ring) s with
    | none => exact .inr (.inl rfl)
    | some t => exact .inr (.inr ⟨t, rfl, rfl⟩)

/-- A ring-buffer write in one piece (R86, R87). -/
theorem rbWriteRing_cases (par : Params) (b : Byte) (r : Ring) :
    (rbNext par r.head ≠ r.tail
        ∧ rbWriteRing par b r = { r with slots := r.slots.set r.head.toNat b, head := rbNext par r.head })
      ∨ (rbNext par r.head = r.tail
        ∧ rbWriteRing par b r =
            { slots := r.slots.set r.head.toNat b, head := rbNext par r.head, bovr := true
              tail := if par.ovrPolicy = .dropOldest then rbNext par r.tail else r.tail }) := by
  rw [rbWriteRing]
  split
  · rename_i h
    refine .inr ⟨h, ?_⟩
    rw [rbOverrun]
    cases par.ovrPolicy <;> rfl
  · exact .inl ⟨‹_›, rfl⟩

end Sys2Proof.Machine
end

