-- ==== Sys2Proof/Laws/PerInstr.lean ====
section
/-! SUPPORT. One statement about every instruction as syntax: the low byte of its word is the opcode or the internal identifier
that R69 and R73 give it. -/
namespace Sys2Proof.Laws.OpByte

/-- The opcode of R69 or the identifier of R73; a refused word keeps its own low byte. -/
def opcodeOf : Instr → Byte
  | .init _ _ _ => 0x01#8
  | .xfer _ _ _ _ => 0x02#8
  | .txonly _ _ => 0x03#8
  | .rxonly _ _ => 0x04#8
  | .rbdrain _ => 0x05#8
  | .status => 0x06#8
  | .csassert => 0x07#8
  | .csdeassert => 0x08#8
  | .irq => 0x80#8
  | .tick => 0x81#8
  | .pstep _ _ _ => 0x82#8
  | .poll => 0x83#8
  | .rbWrite _ => 0xC0#8
  | .csInit _ _ _ => 0xC1#8
  | .csAssertP => 0xC2#8
  | .csDeassertP => 0xC3#8
  | .finalize => 0xC4#8
  | .cleanup => 0xC5#8
  | .errh _ => 0xC6#8
  | .reserved w => opField w

/-- The instruction's word carries its opcode in `OP = w[7:0]` (R66). -/
def Statement (i : Instr) : Prop := opField (encode i) = opcodeOf i

/-- The low byte of a word put together from a high part and an opcode. -/
theorem opField_append (hi : BitVec 120) (op : Byte) : opField (hi ++ op) = op := by
  rw [opField, BitVec.extractLsb'_append_eq_of_add_le (by decide)]
  exact BitVec.extractLsb'_eq_self

theorem init (csSw : Bool) (csPort csPin : BitVec 4) : Statement (.init csSw csPort csPin) := opField_append _ 0x01#8

theorem xfer (slen rlen : Len) (saddr raddr : Addr) : Statement (.xfer slen rlen saddr raddr) := opField_append _ 0x02#8

theorem txonly (slen : Len) (saddr : Addr) : Statement (.txonly slen saddr) := opField_append _ 0x03#8

theorem rxonly (rlen : Len) (raddr : Addr) : Statement (.rxonly rlen raddr) := opField_append _ 0x04#8

theorem rbdrain (daddr : Addr) : Statement (.rbdrain daddr) := opField_append _ 0x05#8

theorem status : Statement .status := opField_append _ 0x06#8

theorem csassert : Statement .csassert := opField_append _ 0x07#8

theorem csdeassert : Statement .csdeassert := opField_append _ 0x08#8

theorem irq : Statement .irq := opField_append _ 0x80#8

theorem tick : Statement .tick := opField_append _ 0x81#8

theorem pstep (set clr : Reg) (rx : Option Byte) : Statement (.pstep set clr rx) := by
  cases rx
  · exact opField_append _ 0x82#8
  · exact opField_append _ 0x82#8

theorem poll : Statement .poll := opField_append _ 0x83#8

theorem rbWrite (b : Byte) : Statement (.rbWrite b) := opField_append _ 0xC0#8

theorem csInit (sw : Bool) (port pin : BitVec 4) : Statement (.csInit sw port pin) := opField_append _ 0xC1#8

theorem csAssertP : Statement .csAssertP := opField_append _ 0xC2#8

theorem csDeassertP : Statement .csDeassertP := opField_append _ 0xC3#8

theorem finalize : Statement .finalize := opField_append _ 0xC4#8

theorem cleanup : Statement .cleanup := opField_append _ 0xC5#8

theorem errh (sr0 : Reg) : Statement (.errh sr0) := opField_append _ 0xC6#8

theorem reserved (w : CmdWord) : Statement (.reserved w) := rfl

end Sys2Proof.Laws.OpByte
end

