-- ==== Sys2Proof/Tests/Slice0.lean ====
section
/-! SUPPORT. Small tests with expected values from the spec's own examples and vectors (95_test_vectors.md, R77), and for every
statement with hypotheses a concrete state that meets them. -/
namespace Sys2Proof.Tests

open Sys2Proof.Machine Sys2Proof.Says

/-! ## Helpers -/

/-- The next state of an outcome, where there is one. -/
def nextOf (o : Host.Outcome State Fault Refusal) : Option State :=
  match o with
  | .next t => some t
  | .fault _ => none
  | .refused _ => none

/-- A part of the next state. -/
def see {α : Type} (f : State → α) (o : Host.Outcome State Fault Refusal) : Option α := (nextOf o).map f

theorem see_next {p : State → Bool} {o : Host.Outcome State Fault Refusal} (h : see p o = some true) :
    ∃ t, o = .next t ∧ p t = true := by
  cases o with
  | next t => exact ⟨t, rfl, Option.some.inj h⟩
  | fault r => cases h
  | refused r => cases h

/-- The response of the last command. -/
def resp (s : State) : CmdWord := s.seq.response

/-- After `INIT cs=sw, port=1, pin=12` (95_test_vectors.md, Conventions), with the history and the response left out. -/
def ready : State :=
  { State.reset with
    ctx := { State.reset.ctx with inited := true }
    cs := { sw := true, port := 1#4, pin := 12#4, clk := true, out := .high } }

/-- A transfer in progress: bytes left each way, and the two flag registers. -/
def running (st : TState) (tx rx : Len) (ie sr : Reg) : State :=
  { ready with
    ctx :=
      { ready.ctx with
        state := st, txBase := 0x1000#32, txRemaining := tx, rxPresent := rx != 0#16, rxBase := 0x2000#32
        rxRemaining := rx, txDone := tx == 0#16, rxDone := rx == 0#16 }
    cs := { ready.cs with out := .low }
    seq := { phase := .wait, kind := .xfer, response := 0#128 }
    p := { sr := sr, ie := ie, spe := true, tsize := maxLen tx rx }
    mem := [(0x1000, 0xAA#8), (0x1001, 0xBB#8)]
    rxPinned := some 0x11#8 }

/-- The driver with a ring buffer of four slots. -/
def withRing (slots : List Byte) (head tail : RbIdx) : State :=
  { ready with ring := { slots := slots, head := head, tail := tail, bovr := false } }

/-- No memory anywhere. -/
def noMemory (s : State) : State := { s with par := { s.par with memOk := [] } }

/-! ## Well-formedness -/

theorem test_wellFormed_reserved_opcode : WellFormed (.reserved 0x09#128) = true := by decide
theorem test_wellFormed_reserved_bit : WellFormed (.reserved 0x106#128) = true := by decide
/-- The one check: a legal word (`STATUS`) is no refused word. -/
theorem test_illFormed_reserved_status : WellFormed (.reserved 0x06#128) = false := by decide
/-- The same for a word with every operand bit of its format set (`XFER`). -/
theorem test_illFormed_reserved_xfer :
    WellFormed (.reserved 0xFFFFFFFFFFFFFFFF0000FFFFFFFF0002#128) = false := by decide

/-! ## Decoding: each constructor from a word written out from R66, R69, R73 and R77 -/

theorem test_decode_init : decodePort 0x00000000000000000000000000C10101#128 = .init true 1#4 12#4 := by decide
theorem test_decode_init_hw : decodePort 0x00000000000000000000000000000001#128 = .init false 0#4 0#4 := by decide
theorem test_decode_xfer :
    decodePort 0x00002000000010000000000500020002#128 = .xfer 2#16 5#16 0x1000#32 0x2000#32 := by decide
theorem test_decode_txonly : decodePort 0x00000000000010000000000000030003#128 = .txonly 3#16 0x1000#32 := by decide
theorem test_decode_rxonly : decodePort 0x00002000000000000000000400000004#128 = .rxonly 4#16 0x2000#32 := by decide
theorem test_decode_rbdrain : decodePort 0x00000000000030000000000000000005#128 = .rbdrain 0x3000#32 := by decide
theorem test_decode_status : decodePort 0x06#128 = .status := by decide
theorem test_decode_csassert : decodePort 0x07#128 = .csassert := by decide
theorem test_decode_csdeassert : decodePort 0x08#128 = .csdeassert := by decide
theorem test_decode_irq : decodeTableWord 8 0x80 = some .irq := by decide
theorem test_decode_tick : decodeTableWord 8 0x81 = some .tick := by decide
theorem test_decode_pstep : decodeTableWord 8 0x82 = some (.pstep 0#32 0#32 none) := by decide
theorem test_decode_pstep_rx :
    (decodeWord .event 0x00000000000000070000080000220182#128).toOption = some (.pstep 0x800#32 7#32 (some 0x22#8)) := by
  decide
theorem test_decode_poll : decodeTableWord 8 0x83 = some .poll := by decide
theorem test_decode_rbWrite : (decodeWord .event 0x5A00C0#128).toOption = some (.rbWrite 0x5A#8) := by decide
theorem test_decode_csInit : (decodeWord .event 0xC101C1#128).toOption = some (.csInit true 1#4 12#4) := by decide
theorem test_decode_csAssertP : decodeTableWord 8 0xC2 = some .csAssertP := by decide
theorem test_decode_csDeassertP : decodeTableWord 8 0xC3 = some .csDeassertP := by decide
theorem test_decode_finalize : decodeTableWord 8 0xC4 = some .finalize := by decide
theorem test_decode_cleanup : decodeTableWord 8 0xC5 = some .cleanup := by decide
theorem test_decode_errh : (decodeWord .event 0x848000000C6#128).toOption = some (.errh 0x848#32) := by decide
/-- Vectors E3 and E4. -/
theorem test_decode_reserved : decodePort 0x09#128 = .reserved 0x09#128 ∧ decodePort 0#128 = .reserved 0#128 := by decide
/-- Vectors E5, E6 and E10: one reserved-zero bit set. -/
theorem test_decode_reserved_bits :
    decodePort 0x106#128 = .reserved 0x106#128 ∧ decodePort 0x201#128 = .reserved 0x201#128
      ∧ decodePort 0x00000000000000000001000000030003#128 = .reserved 0x00000000000000000001000000030003#128 := by decide
/-- Vector E11: an internal identifier is no word of the port. -/
theorem test_decode_internal_on_port : decodePort 0x80#128 = .reserved 0x80#128 := by decide
/-- R73: `0x84` names nothing, and R65: there is no shorter word. -/
theorem test_decode_rejects :
    (decodeWord .event 0x84#128).toOption = none ∧ (decodeBytes .port (List.replicate 15 6#8)).toOption = none := by decide
/-- R50: byte 0 of the command word holds bits 7:0. -/
theorem test_decode_bytes_little_endian :
    (decodeBytes .port [0x03#8, 0#8, 3#8, 0#8, 0#8, 0#8, 0#8, 0#8, 0x00#8, 0x10#8, 0#8, 0#8, 0#8, 0#8, 0#8, 0#8]).toOption
      = some (.txonly 3#16 0x1000#32, []) := by decide
/-- R77: the encoder gives the same words. -/
theorem test_encode_xfer :
    encode (.xfer 2#16 2#16 0x1000#32 0x2000#32) = 0x00002000000010000000000200020002#128 := by decide

/-! ## Initialisation and status -/

/-- Vector S1. -/
theorem test_init_sw :
    see (fun t => (resp t, t.history, t.cs.out, t.cs.clk, t.ctx.inited)) (exec (.init true 1#4 12#4) State.reset)
      = some (1#128, [.clear .eot, .clear .udr, .clear .ovr, .clear .fre, .clear .modf, .clear .susp, .csHigh], .high, true,
        true) := by decide
/-- Vector S3: port 9 of 8. -/
theorem test_init_absent_port :
    see (fun t => (resp t, t.history, t.ctx.inited)) (exec (.init true 9#4 0#4) State.reset)
      = some (0x700#128, [], false) := by decide
/-- Vector E2. -/
theorem test_status_after_init : see resp (exec .status ready) = some 0x6801#128 := by decide
/-- Vector T11, decoded in `IDLE`. -/
theorem test_status_busy :
    see resp (exec .status { running .busyTx 2#16 0#16 0x36A#32 0#32 with seq := State.reset.seq }) = some 0x25823#128 := by
  decide

/-! ## Chip select -/

/-- Vector S4. -/
theorem test_csassert : see (fun t => (resp t, t.cs.out, t.history)) (exec .csassert ready) = some (1#128, .low, [.csLow]) := by
  decide
/-- Vector E8. -/
theorem test_csassert_before_init :
    see (fun t => (resp t, t.cs.out)) (exec .csassert State.reset) = some (0x700#128, .undriven) := by decide
/-- Vector S5, its second command: the line is high already. -/
theorem test_csdeassert_high : see (fun t => (resp t, t.history)) (exec .csdeassert ready) = some (1#128, []) := by decide
/-- Vector S7 for the other command: refused while Busy. -/
theorem test_csdeassert_busy :
    see (fun t => (resp t, t.cs.out))
      (exec .csdeassert { running .busyTx 1#16 0#16 0x36A#32 0#32 with seq := State.reset.seq }) = some (0x700#128, .low) := by
  decide
/-- R96: `CsHigh` is emitted even when the pin was high. -/
theorem test_csInit : see (fun t => (t.history, t.cs.pin)) (exec (.csInit true 2#4 3#4) ready) = some ([.csHigh], 3#4) := by
  decide
/-- R97: hardware-managed, no effect. -/
theorem test_csAssertP_hw : see (fun t => (t.history, t.cs.out)) (exec .csAssertP State.reset) = some ([], .undriven) := by
  decide
/-- R98: from `Low`. -/
theorem test_csDeassertP :
    see (fun t => (t.history, t.cs.out)) (exec .csDeassertP (running .busyTx 1#16 0#16 0#32 0#32))
      = some ([.csHigh], .high) := by decide

/-! ## Starting a transfer -/

/-- L1-1, step 1. -/
theorem test_xfer :
    see (fun t => (t.ctx.state, t.p.ie, t.p.tsize, t.history, t.seq.kind))
      (exec (.xfer 2#16 2#16 0x1000#32 0x2000#32) ready)
      = some (.busyTxRx, 0x36F#32, 2#16, [.csLow, .start], .xfer) := by decide
/-- Vector T3. -/
theorem test_xfer_unequal :
    see (fun t => (t.ctx.state, t.p.tsize)) (exec (.xfer 2#16 5#16 0x1000#32 0x2000#32) ready)
      = some (.busyTxRx, 5#16) := by decide
/-- The example of R111. -/
theorem test_txonly :
    see (fun t => (t.ctx.state, t.ctx.txRemaining, t.p.ie, t.ctx.txDone, t.ctx.rxDone)) (exec (.txonly 3#16 0x1000#32) ready)
      = some (.busyTx, 3#16, 0x36A#32, false, true) := by decide
/-- Vectors T4 and T5: the top of memory. -/
theorem test_txonly_top :
    see (fun t => t.ctx.state) (exec (.txonly 2#16 0xFFFFFFFE#32) ready) = some .busyTx
      ∧ see resp (exec (.txonly 2#16 0xFFFFFFFF#32) ready) = some 0x700#128 := by decide
/-- The example of R112. -/
theorem test_rxonly :
    see (fun t => (t.ctx.state, t.ctx.rxRemaining, t.p.tsize, t.p.ie)) (exec (.rxonly 4#16 0x2000#32) ready)
      = some (.busyRx, 4#16, 4#16, 0x369#32) := by decide
/-- Vectors T6 and T7. -/
theorem test_rxonly_top :
    see (fun t => t.ctx.state) (exec (.rxonly 4#16 0xFFFFFFFF#32) { ready with par := { ready.par with rxViaRb := true } })
        = some .busyRx
      ∧ see resp (exec (.rxonly 4#16 0xFFFFFFFF#32) ready) = some 0x700#128 := by decide

/-! ## The bounded wait -/

/-- Vector W1: the hardware error wins. -/
theorem test_poll_error :
    see resp (exec .poll
      { running .ready 0#16 0#16 0#32 0#32 with
        ctx := { (running .ready 0#16 0#16 0#32 0#32).ctx with xferErr := true, lastErr := .frameError } })
      = some 0x300#128 := by decide
/-- The wrap case of L1-5: elapsed 10 keeps waiting, elapsed 11 releases. -/
theorem test_poll_wrap :
    see (fun t => (t.seq.phase, t.ctx.timeoutCount))
        (exec .poll
          { running .busyTx 1#16 0#16 0x36A#32 0#32 with
            tick := 4#32, ctx := { (running .busyTx 1#16 0#16 0x36A#32 0#32).ctx with t0 := 0xFFFFFFFA#32 } })
        = some (.wait, 0#32)
      ∧ see (fun t => (t.seq.phase, t.ctx.timeoutCount, resp t))
        (exec .poll
          { running .busyTx 1#16 0#16 0x36A#32 0#32 with
            tick := 5#32, ctx := { (running .busyTx 1#16 0#16 0x36A#32 0#32).ctx with t0 := 0xFFFFFFFA#32 } })
        = some (.idle, 1#32, 0x500#128) := by decide

/-! ## The dispatcher -/

/-- L1-1, step 3. -/
theorem test_irq_duplex :
    see (fun t => (t.ctx.txRemaining, t.ctx.rxRemaining, t.history)) (exec .irq (running .busyTxRx 2#16 2#16 0x36F#32 7#32))
      = some (1#16, 1#16, [.memRd 0x1000#32 0xAA#8, .txByte 0xAA#8, .rxByte 0x11#8, .memWr 0x2000#32 0x11#8]) := by decide
/-- Vector V9: end-of-transfer and overrun together. -/
theorem test_irq_eot_and_overrun :
    see (fun t => (t.ctx.lastErr, t.ctx.errorCount, t.ctx.xferErr, t.ctx.txDone, t.history))
      (exec .irq (running .busyTxRx 1#16 1#16 0x36F#32 0x48#32))
      = some (.busOverrun, 1#32, true, true, [.csHigh, .clear .eot, .clear .ovr]) := by decide
/-- Vector V8: end-of-transfer with two bytes unsent. -/
theorem test_finalize_early :
    see (fun t => (t.ctx.state, t.ctx.txRemaining, t.ctx.txDone, t.p.ie, t.history))
      (exec .finalize (running .busyTx 2#16 0#16 0x36A#32 8#32))
      = some (.ready, 2#16, true, 0#32, [.csHigh, .clear .eot]) := by decide
/-- Vector V7 with `CLEANUP_SETS_DONE = false`. -/
theorem test_cleanup :
    see (fun t => (t.ctx.state, t.ctx.rxDone, t.p.spe, t.history))
      (exec .cleanup
        { running .busyRx 0#16 1#16 0x369#32 1#32 with
          par := { Params.reference with cleanupSetsDone := false } })
      = some (.ready, false, false, [.csHigh]) := by decide
/-- Vector V11, the handler's part. -/
theorem test_errh_several :
    see (fun t => (t.ctx.lastErr, t.ctx.errorCount, t.p.sr, t.history)) (exec (.errh 0x328#32)
      { ready with p := { ready.p with sr := 0x320#32 } })
      = some (.modeFault, 1#32, 0#32, [.clear .modf, .clear .fre, .clear .udr]) := by decide
/-- Vector V10, the handler's part: the suspend case. -/
theorem test_errh_suspend :
    see (fun t => (t.ctx.lastErr, t.ctx.errorCount, t.p.sr, t.history)) (exec (.errh 0x848#32)
      { ready with p := { ready.p with sr := 0x840#32 } })
      = some (.none, 0#32, 0x40#32, [.clear .susp]) := by decide

/-! ## The ring buffer -/

/-- Vector B3. -/
theorem test_rbdrain :
    see (fun t => (resp t, t.ring.tail, t.mem, t.history))
      (exec (.rbdrain 0x3000#32) (withRing [0xA2#8, 0#8, 0#8, 0xA1#8] 1#16 3#16))
      = some (0x20001#128, 1#16, [(0x3000, 0xA1#8), (0x3001, 0xA2#8)],
        [.memWr 0x3000#32 0xA1#8, .memWr 0x3001#32 0xA2#8]) := by decide
/-- Vector B7. -/
theorem test_rbdrain_past_top :
    see (fun t => (resp t, t.ring.tail)) (exec (.rbdrain 0xFFFFFFFF#32) (withRing [1#8, 2#8, 0#8, 0#8] 2#16 0#16))
      = some (0x700#128, 0#16) := by decide
/-- Vector B2, its first write: the index wraps by the mask. -/
theorem test_rbWrite_wraps :
    see (fun t => (t.ring.slots, t.ring.head, t.ring.bovr)) (exec (.rbWrite 0xA1#8) (withRing [0#8, 0#8, 0#8, 0#8] 3#16 3#16))
      = some ([0#8, 0#8, 0#8, 0xA1#8], 0#16, false) := by decide
/-- Vector B4. -/
theorem test_rbWrite_overrun :
    see (fun t => (t.ring.head, t.ring.tail, t.ring.bovr)) (exec (.rbWrite 0xB4#8) (withRing [1#8, 2#8, 3#8, 0#8] 3#16 0#16))
      = some (0#16, 1#16, true) := by decide

/-! ## The agents outside the block, and refused words -/

/-- R41: the counter wraps. -/
theorem test_tick_wraps : see (fun t => t.tick) (exec .tick { ready with tick := 0xFFFFFFFF#32 }) = some 0#32 := by decide
/-- 95_test_vectors.md, Conventions: flags are set before they are cleared, and `rx` fixes the next draw. -/
theorem test_pstep :
    see (fun t => (t.p.sr, t.rxPinned)) (exec (.pstep 0x43#32 0x41#32 (some 0x22#8)) ready)
      = some (2#32, some 0x22#8) := by decide
/-- Vector E3. -/
theorem test_reserved : see (fun t => (resp t, t.ctx.result)) (exec (.reserved 9#128) ready) = some (0x700#128, false) := by
  decide
/-- A step runs the scheduled word. -/
theorem test_step_runs_the_word : see resp (step (State.withFetchWord State.reset 128 6)) = some 1#128 := by decide

/-! ## Witnesses: for each statement with hypotheses, a state and operands that meet all of them -/

theorem witness_DecodeOfEncodeIsTheInstruction :
    WellFormed (.init true 15#4 15#4) = true ∧ WellFormed (.pstep 0xFFFFFFFF#32 0#32 (some 0#8)) = true
      ∧ WellFormed (.reserved 0xFF#128) = true := by decide

/-- One word for each clause, at the edge of its range. -/
theorem witness_IllegalWordsAreInvalidRequests :
    PortOpen State.reset ∧ IllegalWord 0#128 ∧ IllegalWord 0x09#128 ∧ IllegalWord 0xFF#128 ∧ IllegalWord 0x201#128
      ∧ IllegalWord 0x102#128 ∧ IllegalWord 0x8003#128 ∧ IllegalWord 0x80000000000000000004#128 ∧ IllegalWord 0x105#128
      ∧ IllegalWord 0x106#128 ∧ IllegalWord 0x80000000000000000000000000000008#128 := by
  refine ⟨?_, ?_, ?_, ?_, ?_, ?_, ?_, ?_, ?_, ?_, ?_⟩ <;> decide

theorem witness_EveryCommandWordCompletes : PortOpen ready := by decide

theorem witness_StepRunsTheScheduledInstruction :
    (State.withFetchWord State.reset 128 6).agenda = .word .port 6#128 :: [] ∧ decodeWord .port 6#128 = .ok .status :=
  ⟨by decide, rfl⟩

theorem witness_FreeScheduleNeverStops : State.reset.agenda = [] := by decide

theorem witness_DisabledStepsAreNotTaken :
    (Instr.status.isCommand = true ∧ (running .busyTx 1#16 0#16 0x36A#32 0#32).callerStuck = false
        ∧ (running .busyTx 1#16 0#16 0x36A#32 0#32).seq.phase = .wait)
      ∧ (ready.callerStuck = false ∧ ready.seq.phase = .idle)
      ∧ ((running .busyTx 1#16 0#16 0x36A#32 0x801#32).irqStuck = false
        ∧ (running .busyTx 1#16 0#16 0x36A#32 0x801#32).p.ie &&& (running .busyTx 1#16 0#16 0x36A#32 0x801#32).p.sr = 0#32) := by
  decide

/-- The last port there is, and a port number that does not matter. -/
theorem witness_InitResetsTheDriver :
    PortOpen State.reset ∧ (true = true → (7#4).toNat < State.reset.par.gpioPorts)
      ∧ (false = true → (15#4).toNat < State.reset.par.gpioPorts) := by decide

/-- The first port there is not, for the first clause; the last port there is, and no software chip select, for the second. -/
theorem witness_InitChecksThePort :
    PortOpen State.reset ∧ (true = true ∧ State.reset.par.gpioPorts ≤ (8#4).toNat)
      ∧ ¬ (true = true ∧ State.reset.par.gpioPorts ≤ (7#4).toNat)
      ∧ ¬ (false = true ∧ State.reset.par.gpioPorts ≤ (8#4).toNat) := by decide

theorem witness_ChipSelectIsIdempotent :
    exec .csAssertP ready = .next (csAssert ready) ∧ exec .csDeassertP ready = .next (csDeassert ready) := ⟨rfl, rfl⟩

theorem witness_ChipSelectCommands : PortOpen ready ∧ ready.ctx.inited = true ∧ ready.ctx.state = .ready := by decide

/-- The second clause: not initialised, and Busy. -/
theorem witness_ChipSelectCommands_refused :
    (PortOpen State.reset ∧ State.reset.ctx.inited = false)
      ∧ PortOpen { running .busyTx 1#16 0#16 0x36A#32 0#32 with seq := State.reset.seq }
      ∧ (running .busyTx 1#16 0#16 0x36A#32 0#32).ctx.state ≠ .ready := by decide

theorem witness_CommandsNeedInit :
    PortOpen State.reset ∧ State.reset.ctx.inited = false ∧ (Instr.xfer 2#16 2#16 0x1000#32 0x2000#32).isCommand = true
      ∧ isInit (.xfer 2#16 2#16 0x1000#32 0x2000#32) = false ∧ Instr.xfer 2#16 2#16 0x1000#32 0x2000#32 ≠ .status := by decide

/-- Ranges that end exactly at `2^32`. -/
theorem witness_XferStarts : PortOpen ready ∧ StartAllowed 2#16 0xFFFFFFFE#32 4#16 0xFFFFFFFC#32 ready := by decide

theorem witness_TxonlyStarts : PortOpen ready ∧ StartAllowed 2#16 0xFFFFFFFE#32 0#16 0#32 ready := by decide

theorem witness_RxonlyStarts : PortOpen ready ∧ StartAllowed 0#16 0#32 4#16 0xFFFFFFFC#32 ready := by decide

/-- Each of the five conditions of R108 alone. -/
theorem witness_IllegalTransfersAreRejected :
    PortOpen ready ∧ ¬ StartAllowed 1#16 0#32 1#16 0#32 State.reset
      ∧ ¬ StartAllowed 1#16 0#32 1#16 0#32 (running .busyTx 1#16 0#16 0x36A#32 0#32)
      ∧ ¬ StartAllowed 0#16 0#32 0#16 0#32 ready ∧ ¬ StartAllowed 2#16 0xFFFFFFFF#32 0#16 0#32 ready
      ∧ ¬ StartAllowed 0#16 0#32 4#16 0xFFFFFFFD#32 ready := by
  refine ⟨?_, ?_, ?_, ?_, ?_, ?_⟩ <;> decide

theorem witness_PollReleasesTheCaller : Waiting (running .busyTx 1#16 0#16 0x36A#32 0#32) := by decide

theorem witness_TimeoutBoundary :
    Waiting (running .busyTx 1#16 0#16 0x36A#32 0#32) ∧ (running .busyTx 1#16 0#16 0x36A#32 0#32).ctx.xferErr = false
      ∧ ¬ ((running .busyTx 1#16 0#16 0x36A#32 0#32).ctx.txDone = true
        ∧ (running .busyTx 1#16 0#16 0x36A#32 0#32).ctx.rxDone = true)
      ∧ (running .busyTx 1#16 0#16 0x36A#32 0#32).ctx.t0 = (running .busyTx 1#16 0#16 0x36A#32 0#32).tick
      ∧ 10 < 4294967296 ∧ 11 < 4294967296 := by decide

theorem witness_StatusReportsTheContext : PortOpen State.reset := by decide

theorem witness_DuplexInvocationMovesAPair :
    IrqReady (running .busyTxRx 1#16 1#16 0x36F#32 0xF#32) ∧ Duplex (running .busyTxRx 1#16 1#16 0x36F#32 0xF#32)
      ∧ SendReachable (running .busyTxRx 1#16 1#16 0x36F#32 0xF#32)
      ∧ RecvReachable (running .busyTxRx 1#16 1#16 0x36F#32 0xF#32) := by decide

/-- `RXP` and `TXP` with the duplex condition failing on `OVR` (vector V2). -/
theorem witness_ReceiveInvocationMovesOneByte :
    IrqReady (running .busyTxRx 2#16 2#16 0x36F#32 0x47#32) ∧ ¬ Duplex (running .busyTxRx 2#16 2#16 0x36F#32 0x47#32)
      ∧ inCause .rxp (running .busyTxRx 2#16 2#16 0x36F#32 0x47#32)
      ∧ RecvReachable (running .busyTxRx 2#16 2#16 0x36F#32 0x47#32) := by decide

theorem witness_TransmitInvocationMovesOneByte :
    IrqReady (running .busyTx 1#16 0#16 0x36A#32 0xA#32) ∧ ¬ Duplex (running .busyTx 1#16 0#16 0x36A#32 0xA#32)
      ∧ ¬ inCause .rxp (running .busyTx 1#16 0#16 0x36A#32 0xA#32) ∧ inCause .txp (running .busyTx 1#16 0#16 0x36A#32 0xA#32)
      ∧ SendReachable (running .busyTx 1#16 0#16 0x36A#32 0xA#32) := by decide

/-- `DXP` with `UDR` (vector V4). -/
theorem witness_OtherInvocationsFinalizeThenHandleErrors :
    IrqReady (running .busyTxRx 2#16 2#16 0x36F#32 0x24#32) ∧ ¬ Duplex (running .busyTxRx 2#16 2#16 0x36F#32 0x24#32)
      ∧ ¬ inCause .rxp (running .busyTxRx 2#16 2#16 0x36F#32 0x24#32)
      ∧ ¬ inCause .txp (running .busyTxRx 2#16 2#16 0x36F#32 0x24#32) := by decide

/-- Each of the four ways: duplex on either side, receive alone, transmit alone. -/
theorem witness_UnreachableMemoryLeavesIrqStuck :
    (IrqReady (noMemory (running .busyTxRx 1#16 1#16 0x36F#32 7#32))
        ∧ Duplex (noMemory (running .busyTxRx 1#16 1#16 0x36F#32 7#32))
        ∧ ¬ SendReachable (noMemory (running .busyTxRx 1#16 1#16 0x36F#32 7#32))
        ∧ ¬ RecvReachable (noMemory (running .busyTxRx 1#16 1#16 0x36F#32 7#32)))
      ∧ (IrqReady (noMemory (running .busyRx 0#16 1#16 0x369#32 1#32))
        ∧ inCause .rxp (noMemory (running .busyRx 0#16 1#16 0x369#32 1#32))
        ∧ ¬ RecvReachable (noMemory (running .busyRx 0#16 1#16 0x369#32 1#32)))
      ∧ (IrqReady (noMemory (running .busyTx 1#16 0#16 0x36A#32 2#32))
        ∧ ¬ inCause .rxp (noMemory (running .busyTx 1#16 0#16 0x36A#32 2#32))
        ∧ inCause .txp (noMemory (running .busyTx 1#16 0#16 0x36A#32 2#32))
        ∧ ¬ SendReachable (noMemory (running .busyTx 1#16 0#16 0x36A#32 2#32))) := by decide

/-- The other clauses: a stuck agent whose line is high, and a step of the machine without it. -/
theorem witness_UnreachableMemoryLeavesIrqStuck_stays :
    irqLine { running .busyTx 1#16 0#16 0x36A#32 2#32 with irqStuck := true } = true
      ∧ ∃ t, step { running .busyTx 1#16 0#16 0x36A#32 2#32 with irqStuck := true, agenda := [moveOf .poll] } = .next t
        ∧ t.irqStuck = true :=
  ⟨by decide, see_next (p := fun t => t.irqStuck) (by decide)⟩

/-- An invocation that stores a byte, and the other addresses of the first clause. -/
theorem witness_InvocationStoresOnlyTheReceivedByte :
    Memory.wf (running .busyTxRx 1#16 1#16 0x36F#32 7#32).mem
      ∧ (∃ t, exec .irq (running .busyTxRx 1#16 1#16 0x36F#32 7#32) = .next t
        ∧ decide (byteAt t 0x2000#32 = 0x11#8) = true)
      ∧ ReceivesToMemory (running .busyTxRx 1#16 1#16 0x36F#32 7#32)
      ∧ 0x2001#32 ≠ recvAddr (running .busyTxRx 1#16 1#16 0x36F#32 7#32) :=
  ⟨by decide, see_next (p := fun t => decide (byteAt t 0x2000#32 = 0x11#8)) (by decide), by decide, by decide⟩

/-- The second clause: a transfer that receives nothing. -/
theorem witness_InvocationStoresOnlyTheReceivedByte_transmit :
    (∃ t, exec .irq (running .busyTx 2#16 0#16 0x36A#32 2#32) = .next t ∧ decide (t.ctx.txRemaining = 1#16) = true)
      ∧ ¬ ReceivesToMemory (running .busyTx 2#16 0#16 0x36A#32 2#32) :=
  ⟨see_next (p := fun t => decide (t.ctx.txRemaining = 1#16)) (by decide), by decide⟩

theorem ready_inv : StateInv ready := by constructor <;> decide

theorem witness_NoInvocationOutsideTransfers :
    StateInv ready ∧ ready.ctx.state = .ready ∧ ready.irqStuck = false := ⟨ready_inv, by decide, by decide⟩

theorem witness_OneByteEachWayAtMost :
    ∃ t, exec .irq (running .busyTxRx 2#16 2#16 0x36F#32 0x47#32) = .next t
      ∧ decide (t.ctx.txRemaining = 2#16 ∧ t.ctx.rxRemaining = 1#16) = true :=
  see_next (p := fun t => decide (t.ctx.txRemaining = 2#16 ∧ t.ctx.rxRemaining = 1#16)) (by decide)

theorem witness_DuplexMovesBothCursors :
    StateInv (running .busyTxRx 1#16 1#16 0x36F#32 7#32) ∧ Duplex (running .busyTxRx 1#16 1#16 0x36F#32 7#32)
      ∧ ∃ t, exec .irq (running .busyTxRx 1#16 1#16 0x36F#32 7#32) = .next t ∧ decide (t.irqStuck = false) = true :=
  ⟨by constructor <;> decide, by decide, see_next (p := fun t => decide (t.irqStuck = false)) (by decide)⟩

theorem witness_InvocationLeavesTheCallerAlone :
    ∃ t, exec .irq (running .busyTxRx 1#16 1#16 0x36F#32 0xF#32) = .next t ∧ decide (t.ctx.state = .ready) = true :=
  see_next (p := fun t => decide (t.ctx.state = .ready)) (by decide)

/-- A snapshot for each case: suspend with end-of-transfer, one error flag, suspend without end-of-transfer beside one, none. -/
theorem witness_ErrorHandlerActsBySnapshot :
    (hasFlag .susp 0x848#32 = true ∧ hasFlag .eot 0x848#32 = true)
      ∧ (¬ (hasFlag .susp 0x20#32 = true ∧ hasFlag .eot 0x20#32 = true) ∧ 0x20#32 &&& 0x360#32 ≠ 0#32)
      ∧ (¬ (hasFlag .susp 0xA00#32 = true ∧ hasFlag .eot 0xA00#32 = true) ∧ 0xA00#32 &&& 0x360#32 ≠ 0#32)
      ∧ (¬ (hasFlag .susp 0x800#32 = true ∧ hasFlag .eot 0x800#32 = true) ∧ 0x800#32 &&& 0x360#32 = 0#32) := by decide

theorem witness_SecondRecoveryChangesNothing :
    ¬ (hasFlag .susp (running .busyTx 1#16 0#16 0x36A#32 0x40#32).p.sr = true
        ∧ hasFlag .eot (running .busyTx 1#16 0#16 0x36A#32 0x40#32).p.sr = true)
      ∧ ∃ t, exec (.errh (running .busyTx 1#16 0#16 0x36A#32 0x40#32).p.sr) (running .busyTx 1#16 0#16 0x36A#32 0x40#32)
          = .next t ∧ decide (t.ctx.errorCount = 1#32) = true :=
  ⟨by decide, see_next (p := fun t => decide (t.ctx.errorCount = 1#32)) (by decide)⟩

/-- Vector V10. -/
theorem witness_SuspendMasksAnError :
    IrqReady (running .busyTxRx 1#16 1#16 0x36F#32 0x848#32) ∧ ¬ Duplex (running .busyTxRx 1#16 1#16 0x36F#32 0x848#32)
      ∧ ¬ inCause .rxp (running .busyTxRx 1#16 1#16 0x36F#32 0x848#32)
      ∧ ¬ inCause .txp (running .busyTxRx 1#16 1#16 0x36F#32 0x848#32)
      ∧ hasFlag .eot (running .busyTxRx 1#16 1#16 0x36F#32 0x848#32).p.sr = true
      ∧ hasFlag .susp (running .busyTxRx 1#16 1#16 0x36F#32 0x848#32).p.sr = true
      ∧ (running .busyTxRx 1#16 1#16 0x36F#32 0x848#32).ctx.xferErr = false
      ∧ Waiting (running .busyTxRx 1#16 1#16 0x36F#32 0x848#32)
      ∧ ∃ t, exec .irq (running .busyTxRx 1#16 1#16 0x36F#32 0x848#32) = .next t ∧ decide (t.p.sr = 0x40#32) = true :=
  ⟨by decide, by decide, by decide, by decide, by decide, by decide, by decide, by decide,
    see_next (p := fun t => decide (t.p.sr = 0x40#32)) (by decide)⟩

theorem witness_RbWriteStoresTheByte :
    ((withRing [0#8, 0#8, 0#8, 0#8] 3#16 3#16).ring.head + 1#16) &&& mask (withRing [0#8, 0#8, 0#8, 0#8] 3#16 3#16).par
      ≠ (withRing [0#8, 0#8, 0#8, 0#8] 3#16 3#16).ring.tail := by decide

theorem witness_RbWriteOverruns :
    ((withRing [1#8, 2#8, 3#8, 0#8] 3#16 0#16).ring.head + 1#16) &&& mask (withRing [1#8, 2#8, 3#8, 0#8] 3#16 0#16).par
      = (withRing [1#8, 2#8, 3#8, 0#8] 3#16 0#16).ring.tail := by decide

/-- Two bytes across the end of the ring, to the last two addresses. -/
theorem witness_DrainCopiesTheUnreadBytes :
    Memory.wf (withRing [2#8, 0#8, 0#8, 1#8] 1#16 3#16).mem ∧ PortOpen (withRing [2#8, 0#8, 0#8, 1#8] 1#16 3#16)
      ∧ (withRing [2#8, 0#8, 0#8, 1#8] 1#16 3#16).ctx.inited = true
      ∧ (0xFFFFFFFE#32).toNat + unreadCount (withRing [2#8, 0#8, 0#8, 1#8] 1#16 3#16) ≤ 4294967296
      ∧ ∀ k < unreadCount (withRing [2#8, 0#8, 0#8, 1#8] 1#16 3#16),
          memAdmits (withRing [2#8, 0#8, 0#8, 1#8] 1#16 3#16).par (plus 0xFFFFFFFE#32 k) = true := by decide

theorem witness_DrainPastTopIsRejected :
    PortOpen (withRing [1#8, 2#8, 0#8, 0#8] 2#16 0#16)
      ∧ 4294967296 < (0xFFFFFFFF#32).toNat + unreadCount (withRing [1#8, 2#8, 0#8, 0#8] 2#16 0#16) := by decide

theorem witness_DrainWithoutMemoryLeavesCallerStuck :
    PortOpen (noMemory (withRing [1#8, 2#8, 0#8, 0#8] 2#16 0#16))
      ∧ (noMemory (withRing [1#8, 2#8, 0#8, 0#8] 2#16 0#16)).ctx.inited = true
      ∧ (0x3000#32).toNat + unreadCount (noMemory (withRing [1#8, 2#8, 0#8, 0#8] 2#16 0#16)) ≤ 4294967296
      ∧ ∃ k < unreadCount (noMemory (withRing [1#8, 2#8, 0#8, 0#8] 2#16 0#16)),
          memAdmits (noMemory (withRing [1#8, 2#8, 0#8, 0#8] 2#16 0#16)).par (plus 0x3000#32 k) = false := by decide

/-- The other clauses: a command and a `POLL` of a stuck caller, and a step of the machine without it. -/
theorem witness_DrainWithoutMemoryLeavesCallerStuck_stays :
    { ready with callerStuck := true }.callerStuck = true ∧ Instr.status.agent = some .caller
      ∧ Instr.poll.agent = some .caller
      ∧ ∃ t, step { ready with callerStuck := true, agenda := [moveOf .tick] } = .next t ∧ t.callerStuck = true :=
  ⟨rfl, rfl, rfl, see_next (p := fun t => t.callerStuck) (by decide)⟩

theorem witness_RingBufferRoundTrip :
    ready.par.wf ∧ RingShaped ready ∧ Memory.wf ready.mem ∧ PortOpen ready ∧ ready.ctx.inited = true
      ∧ ready.ring.head = ready.ring.tail ∧ [0x11#8, 0x22#8, 0x33#8].length ≤ 2 ^ ready.par.rbK - 1
      ∧ (0xFFFFFFFD#32).toNat + [0x11#8, 0x22#8, 0x33#8].length ≤ 4294967296
      ∧ ∀ k < [0x11#8, 0x22#8, 0x33#8].length, memAdmits ready.par (plus 0xFFFFFFFD#32 k) = true := by decide

theorem witness_FullRingOverruns :
    ready.par.wf ∧ RingShaped ready ∧ ready.ring.head = ready.ring.tail
      ∧ [0x11#8, 0x22#8, 0x33#8, 0x44#8].length = 2 ^ ready.par.rbK := by decide

/-- The least and the greatest parameters R7 allows. -/
theorem witness_ResetMeetsTheInvariant :
    ({ Params.reference with rbK := 1, gpioPorts := 1 } : Params).wf
      ∧ ({ Params.reference with rbK := 16, gpioPorts := 16 } : Params).wf := by decide

/-- A running transfer that meets the invariant and takes a step. -/
theorem witness_EveryStepKeepsTheInvariant :
    StateInv { running .busyTxRx 2#16 2#16 0x36F#32 7#32 with agenda := [moveOf .irq] }
      ∧ ∃ t, step { running .busyTxRx 2#16 2#16 0x36F#32 7#32 with agenda := [moveOf .irq] } = .next t
        ∧ decide (t.ctx.txRemaining = 1#16) = true :=
  ⟨by constructor <;> decide, see_next (p := fun t => decide (t.ctx.txRemaining = 1#16)) (by decide)⟩

theorem witness_HistoryIsAppendOnly :
    ∃ t, step { ready with agenda := [moveOf .csassert] } = .next t ∧ decide (t.history = [.csLow]) = true :=
  see_next (p := fun t => decide (t.history = [.csLow])) (by decide)

/-- An assertion from a line the history drove high. -/
theorem witness_ChipSelectHistoryStaysGood :
    CsHistoryGood { ready with history := [.csHigh], agenda := [moveOf .csassert] }
      ∧ ∃ t, step { ready with history := [.csHigh], agenda := [moveOf .csassert] } = .next t
        ∧ decide (t.cs.out = .low) = true :=
  ⟨by decide, see_next (p := fun t => decide (t.cs.out = .low)) (by decide)⟩

theorem witness_NoPinDrivenBeforeInit :
    AgentsOnly { State.reset with agenda := [moveOf .csassert] }
      ∧ UndrivenBeforeInit { State.reset with agenda := [moveOf .csassert] }
      ∧ ∃ t, step { State.reset with agenda := [moveOf .csassert] } = .next t ∧ decide (t.ctx.inited = false) = true :=
  ⟨by decide, by decide, see_next (p := fun t => decide (t.ctx.inited = false)) (by decide)⟩

theorem witness_OnlyIrqAndDrainStore :
    (∃ t, exec .tick ready = .next t ∧ decide (t.tick = 1#32) = true) ∧ Instr.tick ≠ .irq
      ∧ ∀ d, Instr.tick ≠ .rbdrain d :=
  ⟨see_next (p := fun t => decide (t.tick = 1#32)) (by decide), by decide, fun _ h => Instr.noConfusion h⟩

/-- Into a Busy state, and back. -/
theorem witness_OnlyTheListedTransitions :
    (∃ t, exec (.txonly 3#16 0x1000#32) ready = .next t ∧ isBusy t.ctx.state = true)
      ∧ ∃ t, exec .irq (running .busyTx 2#16 0#16 0x36A#32 8#32) = .next t ∧ decide (t.ctx.state = .ready) = true :=
  ⟨see_next (p := fun t => isBusy t.ctx.state) (by decide), see_next (p := fun t => decide (t.ctx.state = .ready)) (by decide)⟩

theorem witness_LeavingBusyDeassertsTheLine :
    ChipSelectShaped (running .busyTx 2#16 0#16 0x36A#32 8#32)
      ∧ isBusy (running .busyTx 2#16 0#16 0x36A#32 8#32).ctx.state = true
      ∧ ∃ t, exec .irq (running .busyTx 2#16 0#16 0x36A#32 8#32) = .next t ∧ decide (t.ctx.state = .ready) = true :=
  ⟨by decide, by decide, see_next (p := fun t => decide (t.ctx.state = .ready)) (by decide)⟩

theorem witness_DiagnosticCountersOnlyCount :
    (∃ t, exec .irq (running .busyTx 1#16 0#16 0x36A#32 0x40#32) = .next t ∧ decide (t.ctx.errorCount = 1#32) = true)
      ∧ isInit .irq = false :=
  ⟨see_next (p := fun t => decide (t.ctx.errorCount = 1#32)) (by decide), by decide⟩

theorem witness_InitedAndClockStaySet :
    (∃ t, step { ready with agenda := [moveOf (.init false 0#4 0#4)] } = .next t ∧ t.cs.sw.not = true)
      ∧ ready.ctx.inited = true ∧ ready.cs.clk = true :=
  ⟨see_next (p := fun t => t.cs.sw.not) (by decide), by decide, by decide⟩

theorem witness_OverrunFlagIsSticky :
    (∃ t, exec (.rbdrain 0x3000#32) { ready with ring := { ready.ring with bovr := true } } = .next t ∧ t.ring.bovr = true)
      ∧ isInit (.rbdrain 0x3000#32) = false :=
  ⟨see_next (p := fun t => t.ring.bovr) (by decide), by decide⟩

theorem witness_CallerLeavesABusyTransferAlone :
    Instr.poll.agent = some .caller ∧ isInit .poll = false
      ∧ isBusy (running .busyTx 1#16 0#16 0x36A#32 0#32).ctx.state = true
      ∧ ∃ t, exec .poll { running .busyTx 1#16 0#16 0x36A#32 0#32 with tick := 11#32 } = .next t
        ∧ decide (t.ctx.timeoutCount = 1#32) = true :=
  ⟨by decide, by decide, by decide, see_next (p := fun t => decide (t.ctx.timeoutCount = 1#32)) (by decide)⟩

theorem witness_ParametersNeverChange :
    ∃ t, step { ready with agenda := [moveOf .tick] } = .next t ∧ decide (t.par = Params.reference) = true :=
  see_next (p := fun t => decide (t.par = Params.reference)) (by decide)

end Sys2Proof.Tests
end

section
/-! What one step can do, and what every step keeps: the inversion of `step`, and the parameters through every operation
(R7, R56). -/
namespace Sys2Proof.Machine

/-! ## What a step is -/

theorem legalState_eq (x : TState) : legalState x = (decide (x = .ready) || isBusy x) := by
  cases x <;> rfl

theorem not_legalLastErr_eq (e : ErrKind) :
    (!legalLastErr e) = (decide (e = .bufferOverrun) || decide (e = .invalidRequest)) := by
  cases e <;> rfl

theorem step_of_scheduled {s : State} {m : Move} {rest : List Move} (h : s.agenda = m :: rest) :
    step s = runMove m (recordModelFault { s with agenda := rest }) := by
  rw [step, runNext, h]

theorem step_of_unscheduled {s : State} (h : s.agenda = []) :
    step s = runFree (Config.freeMove s.freeMoves) (recordModelFault { s with freeMoves := s.freeMoves + 1 }) := by
  rw [step, runNext, h]

theorem runMove_of_decoded {c : Channel} {w : CmdWord} {i : Instr} (h : decodeWord c w = .ok i) (s : State) :
    runMove (.word c w) s = exec i s := by
  rw [runMove, h]

theorem platformStore_next {a : Addr} {v : Byte} {s t : State} (h : platformStore a v s = .next t) :
    memAdmits s.par a = true ∧ t = setByte s a v := by
  rw [platformStore] at h
  split at h
  · cases h
    exact ⟨‹_›, rfl⟩
  · cases h

/-- Everything a scheduled move can do: its word's instruction, or the platform's store. -/
theorem runMove_next {m : Move} {s t : State} (h : runMove m s = .next t) :
    (∃ c w i, m = .word c w ∧ decodeWord c w = .ok i ∧ exec i s = .next t)
      ∨ (∃ a v, m = .store a v ∧ memAdmits s.par a = true ∧ t = setByte s a v) := by
  cases m with
  | word c w =>
    cases hd : decodeWord c w with
    | ok i =>
      rw [runMove_of_decoded hd] at h
      exact .inl ⟨c, w, i, rfl, hd, h⟩
    | error e =>
      rw [runMove, hd] at h
      cases h
  | store a v => exact .inr ⟨a, v, rfl, platformStore_next h⟩

/-- Everything a free move can do: an agent's enabled step, a store where there is memory, or nothing. -/
theorem runFree_next {m : Move} {s t : State} (h : runFree m s = .next t) :
    (∃ c w i, m = .word c w ∧ decodeWord c w = .ok i ∧ enabledStep i s = true ∧ exec i s = .next t)
      ∨ (∃ a v, m = .store a v ∧ memAdmits s.par a = true ∧ t = setByte s a v)
      ∨ t = s := by
  cases m with
  | word c w =>
    rw [runFree] at h
    cases hd : decodeWord c w with
    | ok i =>
      simp only [hd] at h
      split at h
      · exact .inl ⟨c, w, i, rfl, hd, ‹_›, h⟩
      · cases h
        exact .inr (.inr rfl)
    | error e =>
      simp only [hd] at h
      cases h
      exact .inr (.inr rfl)
  | store a v =>
    rw [runFree] at h
    split at h
    · exact .inr (.inl ⟨a, v, rfl, platformStore_next h⟩)
    · cases h
      exact .inr (.inr rfl)

/-- Everything a step can do: the schedule and the model-fault record move on, and then one instruction runs, the platform
stores a byte, or a free pick is passed over. -/
theorem step_next {s t : State} (h : step s = .next t) :
    ∃ u, (∃ ms n, u = recordModelFault { s with agenda := ms, freeMoves := n })
      ∧ ((∃ i, exec i u = .next t) ∨ (∃ a v, memAdmits u.par a = true ∧ t = setByte u a v) ∨ t = u) := by
  cases ha : s.agenda with
  | cons m rest =>
    rw [step_of_scheduled ha] at h
    refine ⟨_, ⟨rest, s.freeMoves, rfl⟩, ?_⟩
    obtain ⟨_, _, i, -, -, hi⟩ | ⟨a, v, -, hav⟩ := runMove_next h
    · exact .inl ⟨i, hi⟩
    · exact .inr (.inl ⟨a, v, hav⟩)
  | nil =>
    rw [step_of_unscheduled ha] at h
    refine ⟨_, ⟨s.agenda, s.freeMoves + 1, rfl⟩, ?_⟩
    obtain ⟨_, _, i, -, -, -, hi⟩ | ⟨a, v, -, hav⟩ | ht := runFree_next h
    · exact .inl ⟨i, hi⟩
    · exact .inr (.inl ⟨a, v, hav⟩)
    · exact .inr (.inr ht)

/-! ## Enabled steps -/

/-- A command is a body behind the port's gate (R65). -/
theorem exec_of_isCommand {i : Instr} (h : i.isCommand = true) : ∃ f, exec i = onPort f := by
  cases i
  case init | xfer | txonly | rxonly | rbdrain | status | csassert | csdeassert | reserved => exact ⟨_, rfl⟩
  all_goals cases h

theorem portOpen_of_enabledStep {i : Instr} {s : State} (hc : i.isCommand = true) (h : enabledStep i s = true) :
    PortOpen s := by
  have hgate : (s.seq.phase == .idle && !s.callerStuck) = true := by
    cases i
    case init | xfer | txonly | rxonly | rbdrain | status | csassert | csdeassert | reserved => exact h
    all_goals cases hc
  simpa [and_comm] using hgate

theorem execPoll_waiting {s : State} (h : Waiting s) : execPoll s = .next (pollStep s) := by
  rw [execPoll, if_neg (by simp [h.1]), if_pos h.2]

/-- The gates of the agents' steps ask for no more than `enabledStep` does (R56, R65, R116, R130). -/
theorem exec_of_enabledStep {i : Instr} {s : State} (h : enabledStep i s = true) : ∃ t, exec i s = .next t := by
  by_cases hc : i.isCommand = true
  · obtain ⟨f, hf⟩ := exec_of_isCommand hc
    exact ⟨f s, by rw [hf, onPort_open (portOpen_of_enabledStep hc h)]⟩
  · cases i
    case irq =>
      have hr : IrqReady s := by simpa [enabledStep, and_comm] using h
      exact ⟨_, execIrq_ready hr⟩
    case poll =>
      have hw : Waiting s := by simpa [enabledStep, and_comm] using h
      exact ⟨_, execPoll_waiting hw⟩
    case tick | pstep => exact ⟨_, rfl⟩
    case rbWrite | csInit | csAssertP | csDeassertP | finalize | cleanup | errh => cases h
    all_goals exact absurd rfl hc

theorem runFree_total (m : Move) (s : State) : ∃ t, runFree m s = .next t := by
  cases m with
  | word c w =>
    rw [runFree]
    cases decodeWord c w with
    | ok i =>
      by_cases he : enabledStep i s = true
      · simpa only [if_pos he] using exec_of_enabledStep he
      · exact ⟨s, if_neg he⟩
    | error e => exact ⟨s, rfl⟩
  | store a v =>
    by_cases hm : memAdmits s.par a = true
    · exact ⟨setByte s a v, by rw [runFree, if_pos hm, platformStore, if_pos hm]⟩
    · exact ⟨s, by rw [runFree, if_neg hm]⟩

/-! ## The parameters through every operation (R7) -/

@[simp] theorem csAssert_par (s : State) : (csAssert s).par = s.par := by rw [csAssert_frame]

@[simp] theorem csDeassert_par (s : State) : (csDeassert s).par = s.par := by rw [csDeassert_frame]

@[simp] theorem csConfigure_par (sw : Bool) (port pin : BitVec 4) (s : State) :
    (csConfigure sw port pin s).par = s.par := by rw [csConfigure_frame]

@[simp] theorem clearFlagsEv_par (fs : List SrFlag) (s : State) : (clearFlagsEv fs s).par = s.par := by
  rw [clearFlagsEv_frame]

@[simp] theorem txAdvance_par (s : State) : (txAdvance s).par = s.par := by rw [txAdvance_frame]

@[simp] theorem rxAdvance_par (s : State) : (rxAdvance s).par = s.par := by rw [rxAdvance_frame]

@[simp] theorem finalizeOp_par (s : State) : (finalizeOp s).par = s.par := by
  obtain ⟨-, h⟩ | ⟨-, h⟩ := finalizeOp_cases s <;> simp [h]

@[simp] theorem cleanupOp_par (s : State) : (cleanupOp s).par = s.par := by
  rw [cleanupOp]
  split <;> simp

@[simp] theorem completeHandled_par (s : State) : (completeHandled s).par = s.par := by
  obtain h | ⟨-, -, h | h⟩ := completeHandled_cases s <;> simp [h]

@[simp] theorem recover_par (f : SrFlag) (fs : List SrFlag) (s : State) : (recover f fs s).par = s.par := by
  simp [recover]

@[simp] theorem errorHandler_par (sr0 : Reg) (s : State) : (errorHandler sr0 s).par = s.par := by
  obtain h | h | ⟨f, fs, -, h⟩ := errorHandler_cases sr0 s <;> simp [h]

@[simp] theorem start_par (kind : CmdKind) (sl : Len) (sa : Addr) (rl : Len) (ra : Addr) (s : State) :
    (start kind sl sa rl ra s).par = s.par := by
  obtain ⟨-, h⟩ | ⟨-, h⟩ := start_cases kind sl sa rl ra s
  · simp [h, startTransfer]
  · simp [h]

@[simp] theorem pollStep_par (s : State) : (pollStep s).par = s.par := by
  obtain ⟨-, h⟩ | ⟨-, -, -, h⟩ | ⟨-, h⟩ | h := pollStep_cases s <;> simp [h]

@[simp] theorem initialise_par (sw : Bool) (port pin : BitVec 4) (s : State) :
    (initialise sw port pin s).par = s.par := by
  simp [initialise]

theorem memWriteAll_par {a : Addr} {vs : List Byte} {s t : State} (h : memWriteAll a vs s = some t) :
    t.par = s.par := by
  obtain ⟨⟨es, ht⟩, -⟩ := memWriteAll_some h
  rw [ht]

@[simp] theorem drainCommand_par (d : Addr) (s : State) : (drainCommand d s).par = s.par := by
  obtain h | h | ⟨t, ht, h⟩ := drainCommand_cases d s
  · simp [h]
  · simp [h]
  · simp [h, memWriteAll_par ht]

theorem txMoveIf_par {s t : State} (h : txMoveIf s = some t) : t.par = s.par := by
  obtain ⟨-, rfl⟩ | ⟨-, h⟩ := txMoveIf_some h
  · rfl
  · obtain ⟨-, rfl⟩ := txMove_some h
    simp

theorem rxDeliver_par {v : Byte} {s t : State} (h : rxDeliver v s = some t) : t.par = s.par := by
  obtain ⟨-, rfl⟩ | ⟨-, -, -, rfl⟩ | ⟨-, -, rfl⟩ := rxDeliver_some h <;> simp

theorem rxMoveIf_par {s t : State} (h : rxMoveIf s = some t) : t.par = s.par := by
  obtain ⟨-, rfl⟩ | ⟨-, h⟩ := rxMoveIf_some h
  · rfl
  · obtain ⟨u, hu, rfl⟩ := rxMove_some h
    simp [rxDeliver_par hu]

theorem invocation_par {s t : State} (h : invocation s = some t) : t.par = s.par := by
  obtain ⟨u, v, hu, hv, rfl⟩ | ⟨v, hv, rfl⟩ | ⟨v, hv, rfl⟩ | rfl := invocation_some h
  · simp [rxMoveIf_par hv, txMoveIf_par hu]
  · simp [rxMoveIf_par hv]
  · simp [txMoveIf_par hv]
  · simp [stepSix]

theorem orIrqStuck_invocation_par (s : State) : (orIrqStuck (invocation s) s).par = s.par := by
  cases h : invocation s with
  | none => rfl
  | some t => exact invocation_par h

theorem csCommand_par {f : State → State} (hf : ∀ s, (f s).par = s.par) (s : State) :
    (csCommand f s).par = s.par := by
  obtain ⟨-, h⟩ | ⟨-, h⟩ := csCommand_cases f s <;> simp [h, hf]

theorem onPort_par {f : State → State} {s t : State} (hf : ∀ s, (f s).par = s.par) (h : onPort f s = .next t) :
    t.par = s.par := by
  obtain ⟨-, rfl⟩ := onPort_next h
  exact hf s

theorem onPort_ifInited_par {f : State → State} {s t : State} (hf : ∀ s, (f s).par = s.par)
    (h : onPort (ifInited f) s = .next t) : t.par = s.par := by
  refine onPort_par (fun s => ?_) h
  obtain ⟨-, h⟩ | ⟨-, h⟩ := ifInited_cases f s <;> simp [h, hf]

theorem execInit_par {sw : Bool} {port pin : BitVec 4} {s t : State} (h : execInit sw port pin s = .next t) :
    t.par = s.par := by
  refine onPort_par (fun s => ?_) h
  split <;> simp

/-- No instruction writes the parameters. -/
theorem exec_par {i : Instr} {s t : State} (h : exec i s = .next t) : t.par = s.par := by
  cases i with
  | init => exact execInit_par h
  | xfer => exact onPort_ifInited_par (fun _ => start_par ..) h
  | txonly => exact onPort_ifInited_par (fun _ => start_par ..) h
  | rxonly => exact onPort_ifInited_par (fun _ => start_par ..) h
  | rbdrain d => exact onPort_ifInited_par (drainCommand_par d) h
  | status => exact onPort_par (fun s => respondWord_par (statusWord s) true s) h
  | csassert => exact onPort_ifInited_par (csCommand_par csAssert_par) h
  | csdeassert => exact onPort_ifInited_par (csCommand_par csDeassert_par) h
  | irq =>
    obtain ⟨-, rfl⟩ := execIrq_next h
    exact orIrqStuck_invocation_par s
  | tick => cases h; exact tickOp_par s
  | pstep => cases h; exact periphOp_par ..
  | poll =>
    obtain ⟨-, rfl⟩ := execPoll_next h
    exact pollStep_par s
  | rbWrite b => cases h; exact rbWriteOp_par b s
  | csInit => cases h; exact csConfigure_par ..
  | csAssertP => cases h; exact csAssert_par s
  | csDeassertP => cases h; exact csDeassert_par s
  | finalize => cases h; exact finalizeOp_par s
  | cleanup => cases h; exact cleanupOp_par s
  | errh sr0 => cases h; exact errorHandler_par sr0 s
  | reserved => exact onPort_par invalidRequest_par h

/-! ## The statements -/

/-- Settles O7: a free pick that no gate admits is passed over, and an enabled one has a next state. -/
theorem freeScheduleNeverStops : Obligations.FreeScheduleNeverStops := by
  intro s h
  rw [step_of_unscheduled h]
  exact runFree_total _ _

/-- Settles O60, by the cases of a step. -/
theorem parametersNeverChange : Obligations.ParametersNeverChange := by
  intro s t h
  obtain ⟨u, ⟨ms, n, rfl⟩, ⟨i, hi⟩ | ⟨a, v, -, rfl⟩ | rfl⟩ := step_next h
  · rw [exec_par hi, recordModelFault_par]
  · rw [setByte_par, recordModelFault_par]
  · rw [recordModelFault_par]

/-- Settles O6: the two code tables of the model-fault record hold the values the statement writes out. -/
theorem stepRunsTheScheduledInstruction : Obligations.StepRunsTheScheduledInstruction := by
  intro s c w rest i ha hd
  rw [step_of_scheduled ha, runMove_of_decoded hd, recordModelFault, legalState_eq, not_legalLastErr_eq]

end Sys2Proof.Machine
end

section
/-! Each operation as one equation of the whole state, in the words of the statements (`Says`). -/
namespace Sys2Proof.Machine

open Sys2Proof.Says

/-! ## Words -/

theorem responseWord_zero (r : Bool) (c : ErrKind) :
    responseWord r c 0#16 = response r (errCode c).toNat 0 := by
  cases r <;> cases c <;> rfl

theorem invalidRequest_eq (s : State) : invalidRequest s = answered false 7 0 s := by
  rw [invalidRequest, respond, responseWord_zero]
  rfl

theorem release_eq (r : Bool) (c : ErrKind) (s : State) : release r c s = released r (errCode c).toNat s := by
  rw [release, respond, responseWord_zero]
  rfl

theorem txAddr_eq (s : State) : txAddr s.ctx = sendAddr s := by
  rw [txAddr, sendAddr, BitVec.ofNat_toNat]

theorem rxAddr_eq (s : State) : rxAddr s.ctx = recvAddr s := by
  rw [rxAddr, recvAddr, BitVec.ofNat_toNat]

/-! ## The chip-select line -/

theorem csAssert_eq (s : State) :
    csAssert s = { s with cs := asserted s.cs, history := s.history ++ assertEvents s.cs } := by
  rw [csAssert, asserted, assertEvents]
  split
  · rfl
  · simp

theorem csDeassert_eq (s : State) :
    csDeassert s = { s with cs := deasserted s.cs, history := s.history ++ deassertEvents s.cs } := by
  rw [csDeassert, deasserted, deassertEvents]
  split
  · rfl
  · simp

/-! ## The ends of a transfer (R117, R118, R150) -/

theorem finalizeOp_eq (s : State) : finalizeOp s = finalized s := by
  rw [finalizeOp, finalized, finalizeReports, csDeassert_eq]
  rfl

theorem cleanupOp_eq (s : State) : cleanupOp s = cleanedUp s := by
  rw [cleanupOp, cleanedUp, csDeassert_eq]
  by_cases h : s.par.cleanupSetsDone = true
  · simp [h, toReady, setDone, disableAll, setSpe, setIe]
  · simp [h, toReady, disableAll, setSpe, setIe]

theorem completeHandled_eq (s : State) : completeHandled s = stepFive s := by
  rw [completeHandled, stepFive, finalizeReports, finalizeOp_eq, cleanupOp_eq]

theorem recover_eq (f : SrFlag) (fs : List SrFlag) (s : State) :
    recover f fs s = { s with
      ctx := { s.ctx with lastErr := errKindOf f, state := .ready, errorCount := s.ctx.errorCount + 1#32, xferErr := true }
      p := { s.p with
        sr := (f :: fs).foldl (fun r g => if clearable g then dropFlag g r else r) s.p.sr, ie := 0#32, spe := false }
      cs := deasserted s.cs
      history := s.history ++ (f :: fs).map .clear ++ deassertEvents s.cs } := by
  rw [recover, csDeassert_eq, clearFlagsEv_frame]
  rfl

/-! ## Byte moves (R134) -/

theorem count_sub_one_eq_zero_iff (n : Len) : n - 1#16 = 0#16 ↔ n = 1#16 := sub_eq_zero

theorem dropFlag_dropFlag (f g : SrFlag) (r : Reg) :
    dropFlag f (dropFlag g r) = r &&& ~~~ (flagMask f ||| flagMask g) := by
  simp only [dropFlag, BitVec.not_or, BitVec.and_assoc, BitVec.and_comm (~~~ flagMask g)]

theorem txMoveIf_eq {s t : State} (h : txMoveIf s = some t) :
    (s.ctx.txRemaining = 0#16 ∧ t = s)
      ∨ (s.ctx.txRemaining ≠ 0#16 ∧ memAdmits s.par (sendAddr s) = true ∧ t = sent s) := by
  obtain h | ⟨hr, h⟩ := txMoveIf_some h
  · exact .inl h
  · obtain ⟨ha, rfl⟩ := txMove_some h
    rw [txAddr_eq] at ha ⊢
    refine .inr ⟨hr, ha, ?_⟩
    rw [txAdvance_frame, sent]
    simp only [count_sub_one_eq_zero_iff, dropFlag_dropFlag, writeTx, emit, List.append_assoc]
    rfl

theorem rbWriteRing_eq (v : Byte) (s : State) : rbWriteRing s.par v s.ring = ringWritten v s := by
  obtain ⟨hne, h⟩ | ⟨he, h⟩ := rbWriteRing_cases s.par v s.ring
  · rw [h, ringWritten]
    exact (if_neg hne).symm
  · rw [h, ringWritten]
    exact (if_pos he).symm

/-- The delivery of a received byte in one piece. -/
theorem rxDeliver_eq {v : Byte} {s t : State} (h : rxDeliver v s = some t) :
    (ReceivesToMemory s → memAdmits s.par (recvAddr s) = true)
      ∧ t = { s with
          ring := if s.par.rxViaRb = true then ringWritten v s else s.ring
          mem := if s.par.rxViaRb = false ∧ s.ctx.rxPresent = true then cellWrite s.mem (recvAddr s).toNat v else s.mem
          history :=
            s.history ++ (if s.par.rxViaRb = false ∧ s.ctx.rxPresent = true then [.memWr (recvAddr s) v] else []) } := by
  obtain ⟨hv, rfl⟩ | ⟨hv, hp, ha, rfl⟩ | ⟨hv, hp, rfl⟩ := rxDeliver_some h
  · simp [hv, rbWriteOp, rbWriteRing_eq]
  · rw [rxAddr_eq] at ha ⊢
    simp [hv, hp, ha, emit, setByte]
  · simp [hv, hp]

theorem rxMoveIf_eq {s t : State} (h : rxMoveIf s = some t) :
    (s.ctx.rxRemaining = 0#16 ∧ t = s)
      ∨ (s.ctx.rxRemaining ≠ 0#16 ∧ (ReceivesToMemory s → memAdmits s.par (recvAddr s) = true)
          ∧ t = received (rxDraw s) s) := by
  obtain h | ⟨hr, h⟩ := rxMoveIf_some h
  · exact .inl h
  · obtain ⟨u, hu, rfl⟩ := rxMove_some h
    obtain ⟨ha, rfl⟩ := rxDeliver_eq hu
    refine .inr ⟨hr, ha, ?_⟩
    rw [rxAdvance_frame, received]
    simp only [count_sub_one_eq_zero_iff, dropFlag_dropFlag]
    rfl

/-! ## Starting a transfer (R108 to R115) -/

theorem startLegal_iff {s : State} {sl rl : Len} {sa ra : Addr} :
    startLegal s sl sa rl ra = true ↔ StartAllowed sl sa rl ra s := by
  simp [startLegal, StartAllowed, passesTop, imp_iff_not_or, and_assoc, or_assoc]

theorem tsizeOf_targetState (sl rl : Len) :
    tsizeOf (targetState sl rl) sl rl
      = if rl = 0#16 then sl else if sl = 0#16 then rl else BitVec.ofNat 16 (max sl.toNat rl.toNat) := by
  have hmax : maxLen sl rl = BitVec.ofNat 16 (max sl.toNat rl.toNat) := by
    rw [maxLen]
    split
    · rw [max_eq_right (by omega), BitVec.ofNat_toNat, BitVec.setWidth_eq]
    · rw [max_eq_left (by omega), BitVec.ofNat_toNat, BitVec.setWidth_eq]
  rw [targetState, ← hmax]
  split
  · rfl
  · split <;> rfl

theorem ieSet_targetState (sl rl : Len) :
    ieSet (targetState sl rl) &&& ieBits
      = if rl = 0#16 then 0x36A#32 else if sl = 0#16 then 0x369#32 else 0x36F#32 := by
  rw [targetState]
  split
  · rfl
  · split <;> rfl

theorem startTransfer_eq (kind : CmdKind) (sl : Len) (sa : Addr) (rl : Len) (ra : Addr) (s : State) :
    startTransfer kind sl sa rl ra s = started kind sl sa rl ra s := by
  have hp : (rl != 0#16 && !s.par.rxViaRb) = decide (rl ≠ 0#16 ∧ s.par.rxViaRb = false) := by
    simp [bne, beq_eq_decide]
  rw [startTransfer, csAssert_eq, started, ← tsizeOf_targetState, ← ieSet_targetState, ← hp]
  rfl

/-- What a successful `INIT` leaves (R105, R173). -/
theorem initialise_eq (sw : Bool) (port pin : BitVec 4) (s : State) :
    initialise sw port pin s = { s with
      ctx :=
        { s.ctx with
          state := .ready, txIdx := 0#16, rxIdx := 0#16, rxPresent := false
          txRemaining := 0#16, rxRemaining := 0#16, txDone := false, rxDone := false, xferErr := false
          lastErr := .none, errorCount := 0#32, timeoutCount := 0#32, inited := true, result := true }
      ring := { s.ring with head := 0#16, tail := 0#16, bovr := false }
      cs :=
        if sw = true then { sw := true, port := port, pin := pin, clk := true, out := .high }
        else { sw := false, port := 0#4, pin := 0#4, clk := s.cs.clk, out := .undriven }
      p := { sr := s.p.sr &&& ~~~ 0xB68#32, ie := 0#32, spe := false, tsize := 0#16 }
      seq := { s.seq with kind := .none, response := response true 0 0 }
      history :=
        s.history ++ [.clear .eot, .clear .udr, .clear .ovr, .clear .fre, .clear .modf, .clear .susp]
          ++ (if sw = true then [.csHigh] else []) } := by
  have hsr : [SrFlag.eot, .udr, .ovr, .fre, .modf, .susp].foldl
      (fun r f => if clearable f then dropFlag f r else r) s.p.sr = s.p.sr &&& ~~~ 0xB68#32 := by
    simp [clearable, dropFlag, BitVec.and_assoc, flagMask, flagBit]
  rw [initialise, csConfigure_frame, clearFlagsEv_frame, respond, responseWord_zero]
  simp only [disableAll_p, hsr]
  rfl

end Sys2Proof.Machine
end

section
/-! Everything an instruction that answers a next state can have done. -/
namespace Sys2Proof.Machine

open Sys2Proof.Says

/-- The next states of each instruction, with the guards that lead to them: one rule per way through its gates. -/
inductive Effect : Instr → State → State → Prop
  /-- A command turned away as InvalidRequest (R147). -/
  | rejected {i : Instr} {s : State} : i.isCommand = true → PortOpen s → Effect i s (invalidRequest s)
  | init {sw : Bool} {port pin : BitVec 4} {s : State} :
      PortOpen s → csPortValid s.par sw port = true → Effect (.init sw port pin) s (initialise sw port pin s)
  | xfer {sl rl : Len} {sa ra : Addr} {s : State} :
      PortOpen s → StartAllowed sl sa rl ra s → Effect (.xfer sl rl sa ra) s (started .xfer sl sa rl ra s)
  | txonly {sl : Len} {sa : Addr} {s : State} :
      PortOpen s → StartAllowed sl sa 0#16 0#32 s → Effect (.txonly sl sa) s (started .txonly sl sa 0#16 0#32 s)
  | rxonly {rl : Len} {ra : Addr} {s : State} :
      PortOpen s → StartAllowed 0#16 0#32 rl ra s → Effect (.rxonly rl ra) s (started .rxonly 0#16 0#32 rl ra s)
  | drained {d : Addr} {s u : State} :
      PortOpen s → s.ctx.inited = true → memWriteAll d (rbUnread s.par s.ring) s = some u →
      Effect (.rbdrain d) s (respond true .none (rbCount s.par s.ring) (rbEmpty u))
  /-- The drain met an address with no memory (R52). -/
  | drainStuck {d : Addr} {s : State} :
      PortOpen s → s.ctx.inited = true → Effect (.rbdrain d) s { s with callerStuck := true }
  | status {s : State} : PortOpen s → Effect .status s (respondWord (statusWord s) true s)
  | csassert {s : State} :
      PortOpen s → s.ctx.inited = true → s.ctx.state = .ready →
      Effect .csassert s (respond true .none 0#16 (csAssert s))
  | csdeassert {s : State} :
      PortOpen s → s.ctx.inited = true → s.ctx.state = .ready →
      Effect .csdeassert s (respond true .none 0#16 (csDeassert s))
  /-- An invocation that moved at most a byte each way and went through step 5 (R132 to R138). -/
  | irqMoved {s u v : State} :
      IrqReady s → u = s ∨ txMoveIf s = some u → v = u ∨ rxMoveIf u = some v → Effect .irq s (completeHandled v)
  /-- An invocation by step 6 (R139). -/
  | irqOther {s : State} : IrqReady s → Effect .irq s (stepSix s.p.sr s)
  /-- A byte move met an address with no memory (R52). -/
  | irqStuck {s : State} : IrqReady s → Effect .irq s { s with irqStuck := true }
  | tick {s : State} : Effect .tick s (tickOp s)
  | pstep {set clr : Reg} {rx : Option Byte} {s : State} : Effect (.pstep set clr rx) s (periphOp set clr rx s)
  | failed {s : State} : Waiting s → s.ctx.xferErr = true → Effect .poll s (release false s.ctx.lastErr s)
  | succeeded {s : State} :
      Waiting s → s.ctx.xferErr = false → s.ctx.txDone = true → s.ctx.rxDone = true →
      Effect .poll s (release true .none s)
  | timedOut {s : State} :
      Waiting s → timedOut s = true → Effect .poll s (release false .timeout (countTimeout s))
  /-- The wait goes on (R116). -/
  | waits {s : State} : Waiting s → Effect .poll s s
  | rbWrite {b : Byte} {s : State} : Effect (.rbWrite b) s (rbWriteOp b s)
  | csInit {sw : Bool} {port pin : BitVec 4} {s : State} : Effect (.csInit sw port pin) s (csConfigure sw port pin s)
  | csAssertP {s : State} : Effect .csAssertP s (csAssert s)
  | csDeassertP {s : State} : Effect .csDeassertP s (csDeassert s)
  | finalize {s : State} : Effect .finalize s (finalized s)
  | cleanup {s : State} : Effect .cleanup s (cleanedUp s)
  | errh {sr0 : Reg} {s : State} : Effect (.errh sr0) s (errorHandler sr0 s)

/-- A command behind the port's gate and step 3 of the decode order: refused, or its body once initialised (R71). -/
theorem onPort_ifInited_next {f : State → State} {s t : State} (h : onPort (ifInited f) s = .next t) :
    PortOpen s ∧ (t = invalidRequest s ∨ (s.ctx.inited = true ∧ t = f s)) := by
  obtain ⟨ho, rfl⟩ := onPort_next h
  obtain ⟨hi, h⟩ | ⟨-, h⟩ := ifInited_cases f s
  · exact ⟨ho, .inr ⟨hi, h⟩⟩
  · exact ⟨ho, .inl h⟩

/-- A transfer command: refused, or started (R108). -/
theorem effect_of_start {i : Instr} {kind : CmdKind} {sl rl : Len} {sa ra : Addr} {s t : State} (hc : i.isCommand = true)
    (hstart : PortOpen s → StartAllowed sl sa rl ra s → Effect i s (started kind sl sa rl ra s))
    (h : onPort (ifInited (start kind sl sa rl ra)) s = .next t) : Effect i s t := by
  obtain ⟨ho, rfl | ⟨-, rfl⟩⟩ := onPort_ifInited_next h
  · exact .rejected hc ho
  · obtain ⟨hl, h⟩ | ⟨-, h⟩ := start_cases kind sl sa rl ra s
    · rw [h, startTransfer_eq]
      exact hstart ho (startLegal_iff.mp hl)
    · exact h ▸ .rejected hc ho

/-- A chip-select command: refused, or its procedure while initialised and `Ready` (R99, R100). -/
theorem effect_of_csCommand {i : Instr} {f : State → State} {s t : State} (hc : i.isCommand = true)
    (hdone : PortOpen s → s.ctx.inited = true → s.ctx.state = .ready → Effect i s (respond true .none 0#16 (f s)))
    (h : onPort (ifInited (csCommand f)) s = .next t) : Effect i s t := by
  obtain ⟨ho, rfl | ⟨hi, rfl⟩⟩ := onPort_ifInited_next h
  · exact .rejected hc ho
  · obtain ⟨hr, h⟩ | ⟨-, h⟩ := csCommand_cases f s
    · exact h ▸ hdone ho hi hr
    · exact h ▸ .rejected hc ho

theorem effect_of_execRbdrain {d : Addr} {s t : State} (h : execRbdrain d s = .next t) : Effect (.rbdrain d) s t := by
  obtain ⟨ho, rfl | ⟨hi, rfl⟩⟩ := onPort_ifInited_next h
  · exact .rejected rfl ho
  · obtain h | h | ⟨u, hu, h⟩ := drainCommand_cases d s
    · exact h ▸ .rejected rfl ho
    · exact h ▸ .drainStuck ho hi
    · exact h ▸ .drained ho hi hu

theorem effect_of_execInit {sw : Bool} {port pin : BitVec 4} {s t : State} (h : execInit sw port pin s = .next t) :
    Effect (.init sw port pin) s t := by
  obtain ⟨ho, rfl⟩ := onPort_next h
  split
  · exact .init ho ‹_›
  · exact .rejected rfl ho

theorem effect_of_execIrq {s t : State} (h : execIrq s = .next t) : Effect .irq s t := by
  obtain ⟨hr, rfl⟩ := execIrq_next h
  cases hi : invocation s with
  | none => exact .irqStuck hr
  | some t =>
    obtain ⟨u, v, hu, hv, rfl⟩ | ⟨v, hv, rfl⟩ | ⟨v, hv, rfl⟩ | rfl := invocation_some hi
    · exact .irqMoved hr (.inr hu) (.inr hv)
    · exact .irqMoved hr (.inl rfl) (.inr hv)
    · exact .irqMoved hr (.inr hv) (.inl rfl)
    · exact .irqOther hr

theorem effect_of_execPoll {s t : State} (h : execPoll s = .next t) : Effect .poll s t := by
  obtain ⟨hw, rfl⟩ := execPoll_next h
  obtain ⟨he, h⟩ | ⟨he, htx, hrx, h⟩ | ⟨ht, h⟩ | h := pollStep_cases s
  · exact h ▸ .failed hw he
  · exact h ▸ .succeeded hw he htx hrx
  · exact h ▸ .timedOut hw ht
  · exact h.symm ▸ .waits hw

/-- Every next state an instruction answers is one of its effects. -/
theorem effect_of_exec {i : Instr} {s t : State} (h : exec i s = .next t) : Effect i s t := by
  cases i with
  | init => exact effect_of_execInit h
  | xfer => exact effect_of_start rfl .xfer h
  | txonly => exact effect_of_start rfl .txonly h
  | rxonly => exact effect_of_start rfl .rxonly h
  | rbdrain => exact effect_of_execRbdrain h
  | status =>
    rw [exec_status, execStatus] at h
    obtain ⟨ho, rfl⟩ := onPort_next h
    exact .status ho
  | csassert => exact effect_of_csCommand rfl .csassert h
  | csdeassert => exact effect_of_csCommand rfl .csdeassert h
  | irq => exact effect_of_execIrq h
  | poll => exact effect_of_execPoll h
  | reserved =>
    obtain ⟨ho, rfl⟩ := onPort_next h
    exact .rejected rfl ho
  | tick => cases h; exact .tick
  | pstep => cases h; exact .pstep
  | rbWrite => cases h; exact .rbWrite
  | csInit => cases h; exact .csInit
  | csAssertP => cases h; exact .csAssertP
  | csDeassertP => cases h; exact .csDeassertP
  | finalize =>
    rw [exec_finalize, execFinalize, finalizeOp_eq] at h
    cases h
    exact .finalize
  | cleanup =>
    rw [exec_cleanup, execCleanup, cleanupOp_eq] at h
    cases h
    exact .cleanup
  | errh => cases h; exact .errh

end Sys2Proof.Machine
end

section
/-! The invariant of the machine (R23, R31, R36, R95, R141, R143, R144) through every operation, and so through every step. -/
namespace Sys2Proof.Machine

open Sys2Proof.Says

/-! ## What the line and the flags do -/

theorem asserted_shaped (c : ChipSelect) (h : c.sw = true ↔ c.out ≠ .undriven) :
    (asserted c).sw = true ↔ (asserted c).out ≠ .undriven := by
  rw [asserted]
  split
  · simp [*]
  · exact h

theorem deasserted_shaped (c : ChipSelect) (h : c.sw = true ↔ c.out ≠ .undriven) :
    (deasserted c).sw = true ↔ (deasserted c).out ≠ .undriven := by
  rw [deasserted]
  split
  · simp [*]
  · exact h

theorem legalLastErr_errKindOf (f : SrFlag) : legalLastErr (errKindOf f) = true := by
  cases f <;> rfl

theorem and_mask_and_mask (i m : RbIdx) : i &&& m &&& m = i &&& m := by
  rw [BitVec.and_assoc, BitVec.and_self]

/-! ## Operations that keep the invariant -/

/-- A state with every source and the peripheral disabled, in `Ready`, has only its shape to answer for. -/
theorem stateInv_of_ready {s : State} (hpar : s.par.wf) (hmem : Memory.wf s.mem) (hring : RingShaped s)
    (hstate : s.ctx.state = .ready) (hie : s.p.ie = 0#32) (hspe : s.p.spe = false)
    (hlast : legalLastErr s.ctx.lastErr = true) (hfault : s.modelFault = false) (hcs : ChipSelectShaped s)
    (hseq : s.seq.phase = .idle ↔ s.seq.kind = .none) : StateInv s where
  params := hpar
  memory := hmem
  ring := hring
  ieReserved := by simp [IeReservedZero, hie]
  codes := ⟨by rw [hstate]; rfl, hlast, hfault⟩
  quiet := ⟨fun _ => hie, by rw [hspe, hstate]; rfl⟩
  enables := by simp [EnablesFollowCounts, hie, hasFlag]
  chipSelect := hcs
  sequencer := ⟨hseq, fun _ => hstate⟩
  counters := fun hb => absurd hb (by simp [hstate, isBusy])

namespace StateInv
variable {s t : State} (h : StateInv s)
include h

theorem lastErr_legal : legalLastErr s.ctx.lastErr = true := h.codes.2.1

theorem modelFault_eq : s.modelFault = false := h.codes.2.2

theorem respondWord (w : CmdWord) (r : Bool) : StateInv (respondWord w r s) := { h with }

theorem respond (r : Bool) (c : ErrKind) (n : RbIdx) : StateInv (respond r c n s) := h.respondWord ..

theorem invalidRequest : StateInv (invalidRequest s) := h.respond ..

theorem tickOp : StateInv (tickOp s) := { h with }

theorem periphOp (set clr : Reg) (rx : Option Byte) : StateInv (periphOp set clr rx s) := { h with }

theorem clearFlagEv (f : SrFlag) : StateInv (clearFlagEv f s) := { h with }

theorem setByte (a : Addr) (v : Byte) : StateInv (setByte s a v) := { h with memory := setByte_wf s a v h.memory }

theorem csAssert : StateInv (csAssert s) := by
  rw [csAssert_eq]
  exact { h with chipSelect := asserted_shaped s.cs h.chipSelect }

theorem csDeassert : StateInv (csDeassert s) := by
  rw [csDeassert_eq]
  exact { h with chipSelect := deasserted_shaped s.cs h.chipSelect }

theorem csConfigure (sw : Bool) (port pin : BitVec 4) : StateInv (csConfigure sw port pin s) := by
  rw [csConfigure_frame]
  exact { h with chipSelect := by cases sw <;> simp [ChipSelectShaped] }

/-- The end of a transfer, whatever else it records in the context and the status register. -/
theorem ended {c : Ctx} {sr : Reg} {tsize : Len} {es : List Event} (hstate : c.state = .ready)
    (hlast : legalLastErr c.lastErr = true) :
    StateInv { s with ctx := c, p := ⟨sr, 0#32, false, tsize⟩, cs := deasserted s.cs, history := es } :=
  stateInv_of_ready h.params h.memory h.ring hstate rfl rfl hlast h.modelFault_eq (deasserted_shaped s.cs h.chipSelect)
    h.sequencer.1

theorem finalized : StateInv (finalized s) := by
  rw [Says.finalized]
  split
  · exact h.ended rfl h.lastErr_legal
  · exact h

theorem cleanedUp : StateInv (cleanedUp s) := h.ended rfl h.lastErr_legal

theorem recover (f : SrFlag) (fs : List SrFlag) : StateInv (recover f fs s) := by
  rw [recover_eq]
  exact h.ended rfl (legalLastErr_errKindOf f)

theorem errorHandler (sr0 : Reg) : StateInv (errorHandler sr0 s) := by
  obtain he | he | ⟨f, fs, -, he⟩ := errorHandler_cases sr0 s
  · exact he ▸ h.clearFlagEv .susp
  · exact he.symm ▸ h
  · exact he ▸ h.recover f fs

theorem completeHandled : StateInv (completeHandled s) := by
  rw [completeHandled_eq, stepFive]
  split
  · split
    · exact h.finalized
    · exact h.cleanedUp
  · exact h

theorem stepSix (sr0 : Reg) : StateInv (stepSix sr0 s) := by
  rw [Machine.stepSix, finalizeOp_eq]
  exact h.finalized.errorHandler sr0

/-! The ring buffer -/

theorem ringWritten_shaped (v : Byte) : RingShaped { s with ring := ringWritten v s } := by
  obtain ⟨hl, -, ht⟩ := h.ring
  have hm : ∀ i : RbIdx, i &&& mask s.par &&& rbMask s.par = i &&& mask s.par := fun i => and_mask_and_mask i _
  simp only [RingShaped, ringWritten]
  split
  · refine ⟨by simpa using hl, hm _, ?_⟩
    split
    · exact hm _
    · exact ht
  · exact ⟨by simpa using hl, hm _, ht⟩

theorem rbWriteOp (b : Byte) : StateInv (rbWriteOp b s) := by
  rw [Machine.rbWriteOp, rbWriteRing_eq]
  exact { h with ring := h.ringWritten_shaped b }

theorem rbEmpty : StateInv (rbEmpty s) := by
  obtain ⟨hslots, hhead, -⟩ := h.ring
  exact { h with ring := ⟨hslots, hhead, hhead⟩ }

theorem memWriteAll {a : Addr} {vs : List Byte} (hw : memWriteAll a vs s = some t) : StateInv t := by
  obtain ⟨⟨es, ht⟩, hm⟩ := memWriteAll_some hw
  rw [ht]
  exact { h with memory := hm h.memory }

/-! The wait -/

theorem release (r : Bool) (c : ErrKind) : StateInv (release r c s) :=
  { h with sequencer := ⟨by simp, h.sequencer.2⟩ }

theorem countTimeout : StateInv (countTimeout s) :=
  { h with codes := ⟨h.codes.1, rfl, h.modelFault_eq⟩ }

theorem initialise (sw : Bool) (port pin : BitVec 4) (hp : s.seq.phase = .idle) :
    StateInv (initialise sw port pin s) := by
  rw [initialise_eq]
  refine stateInv_of_ready h.params h.memory ⟨h.ring.1, ?_, ?_⟩ rfl rfl rfl rfl h.modelFault_eq ?_ ?_
  · exact BitVec.zero_and
  · exact BitVec.zero_and
  · cases sw <;> simp [ChipSelectShaped]
  · simp [hp]

end StateInv

/-! ## Byte moves and the start of a transfer -/

theorem hasFlag_and_not (f : SrFlag) (r m : Reg) : hasFlag f (r &&& ~~~ m) = (hasFlag f r && !hasFlag f m) := by
  have hf : flagBit f < 32 := by cases f <;> decide
  simp [hasFlag, hf]

theorem ieReserved_and_not {r m : Reg} (h : r &&& ~~~ ieBits = 0#32) : r &&& ~~~ m &&& ~~~ ieBits = 0#32 := by
  rw [BitVec.and_assoc, BitVec.and_comm (~~~ m), ← BitVec.and_assoc, h, BitVec.zero_and]

/-- Moving one byte leaves the sum of moved and left (R141). -/
theorem moved_add_left {idx left : Len} (hl : left ≠ 0#16) (ht : idx.toNat + left.toNat < 65536) :
    (idx + 1#16).toNat + (left - 1#16).toNat = idx.toNat + left.toNat := by
  bv_omega

theorem txTotal_sent {s : State} (hr : s.ctx.txRemaining ≠ 0#16) (ht : txTotal s.ctx < 65536) :
    txTotal (sent s).ctx = txTotal s.ctx := moved_add_left hr ht

theorem rxTotal_received {v : Byte} {s : State} (hr : s.ctx.rxRemaining ≠ 0#16) (ht : rxTotal s.ctx < 65536) :
    rxTotal (received v s).ctx = rxTotal s.ctx := moved_add_left hr ht

/-- The three directions of a started transfer: state, enables and size (R109, R114, R115). -/
theorem started_cases (kind : CmdKind) (sl : Len) (sa : Addr) (rl : Len) (ra : Addr) (s : State)
    (hlen : sl ≠ 0#16 ∨ rl ≠ 0#16) :
    let t := started kind sl sa rl ra s
    (rl = 0#16 ∧ sl ≠ 0#16 ∧ t.ctx.state = .busyTx ∧ t.p.ie = 0x36A#32 ∧ t.p.tsize = sl)
      ∨ (rl ≠ 0#16 ∧ sl = 0#16 ∧ t.ctx.state = .busyRx ∧ t.p.ie = 0x369#32 ∧ t.p.tsize = rl)
      ∨ (rl ≠ 0#16 ∧ sl ≠ 0#16 ∧ t.ctx.state = .busyTxRx ∧ t.p.ie = 0x36F#32
        ∧ t.p.tsize = BitVec.ofNat 16 (max sl.toNat rl.toNat)) := by
  by_cases hr : rl = 0#16
  · exact .inl ⟨hr, hlen.resolve_right (absurd hr), if_pos hr, if_pos hr, if_pos hr⟩
  · by_cases hs : sl = 0#16
    · simp [started, hr, hs]
    · simp [started, hr, hs]

theorem started_enables (kind : CmdKind) {sl : Len} (sa : Addr) {rl : Len} (ra : Addr) (s : State)
    (hlen : sl ≠ 0#16 ∨ rl ≠ 0#16) : EnablesFollowCounts (started kind sl sa rl ra s) := by
  have htx : (started kind sl sa rl ra s).ctx.txRemaining = sl := rfl
  have hrx : (started kind sl sa rl ra s).ctx.rxRemaining = rl := rfl
  rw [EnablesFollowCounts, htx, hrx]
  obtain ⟨-, hs, -, hie, -⟩ | ⟨hr, -, -, hie, -⟩ | ⟨hr, hs, -, hie, -⟩ := started_cases kind sl sa rl ra s hlen
  · have hoff : hasFlag .rxp 0x36A#32 = false ∧ hasFlag .dxp 0x36A#32 = false := by decide
    simp [hie, hoff, hs]
  · have hoff : hasFlag .txp 0x369#32 = false ∧ hasFlag .dxp 0x369#32 = false := by decide
    simp [hie, hoff, hr]
  · exact ⟨fun _ => hs, fun _ => hr, fun _ => ⟨hs, hr⟩⟩

/-- The counter law at the start: nothing is moved yet, and R108 has checked the ends of the buffers. -/
theorem started_counters (kind : CmdKind) {sl : Len} {sa : Addr} {rl : Len} {ra : Addr} {s : State}
    (ha : StartAllowed sl sa rl ra s) : CountersAddUp (started kind sl sa rl ra s) := by
  obtain ⟨-, -, hlen, hsa, hra⟩ := ha
  have hmax : max sl.toNat rl.toNat < 65536 := max_lt sl.isLt rl.isLt
  have htx : txTotal (started kind sl sa rl ra s).ctx = sl.toNat := Nat.zero_add _
  have hrx : rxTotal (started kind sl sa rl ra s).ctx = rl.toNat := Nat.zero_add _
  have hsend : sa.toNat + sl.toNat ≤ 4294967296 := by
    by_cases hs : sl = 0#16
    · simp [hs, sa.isLt.le]
    · exact hsa hs
  have hrecv : (started kind sl sa rl ra s).ctx.rxPresent = true →
      ra.toNat + rl.toNat ≤ 4294967296 ∧ s.par.rxViaRb = false := by
    intro hp
    obtain ⟨hr, hv⟩ := of_decide_eq_true hp
    exact ⟨hra hr hv, hv⟩
  intro _
  rw [htx, hrx]
  have hpos : ∀ n : Len, n ≠ 0#16 → 0 < n.toNat := fun n hn => by bv_omega
  obtain ⟨hr, -, hst, -, hts⟩ | ⟨-, hs, hst, -, hts⟩ | ⟨hr, hs, hst, -, hts⟩ :=
    started_cases kind sl sa rl ra s hlen
  all_goals rw [hst, hts]
  · exact ⟨sl.isLt, rl.isLt, fun _ => ⟨congrArg _ hr, rfl⟩, nofun, nofun, hsend, hrecv⟩
  · exact ⟨sl.isLt, rl.isLt, nofun, fun _ => ⟨congrArg _ hs, rfl⟩, nofun, hsend, hrecv⟩
  · exact ⟨sl.isLt, rl.isLt, nofun, nofun, fun _ => ⟨hpos _ hs, hpos _ hr, Nat.mod_eq_of_lt hmax⟩, hsend, hrecv⟩

/-- Clearing bits of a register, where a condition holds. -/
theorem ite_and_not (p : Prop) [Decidable p] (r m : Reg) :
    (if p then r &&& ~~~ m else r) = r &&& ~~~ (if p then m else 0#32) := by
  split
  · rfl
  · rw [BitVec.not_zero, BitVec.and_allOnes]

theorem sent_ie (s : State) :
    (sent s).p.ie = s.p.ie &&& ~~~ (if s.ctx.txRemaining = 1#16 then 0x6#32 else 0#32) := ite_and_not ..

theorem received_ie (v : Byte) (s : State) :
    (received v s).p.ie = s.p.ie &&& ~~~ (if s.ctx.rxRemaining = 1#16 then 0x5#32 else 0#32) := ite_and_not ..

/-- The enable law follows the transmit count down: its sources are gone when the count is (R134, R143). -/
theorem sent_enables {s : State} (h : EnablesFollowCounts s) : EnablesFollowCounts (sent s) := by
  obtain ⟨htx, hrx, hdx⟩ := h
  simp only [EnablesFollowCounts, sent_ie, hasFlag_and_not]
  by_cases h1 : s.ctx.txRemaining = 1#16
  · have hoff : hasFlag .txp 0x6#32 = true ∧ hasFlag .dxp 0x6#32 = true ∧ hasFlag .rxp 0x6#32 = false := by decide
    simpa [h1, hoff] using show _ → (sent s).ctx.rxRemaining ≠ 0#16 from hrx
  · have hleft : (sent s).ctx.txRemaining ≠ 0#16 := fun h0 => h1 ((count_sub_one_eq_zero_iff _).mp h0)
    have hoff : ∀ f, hasFlag f 0#32 = false := by simp [hasFlag]
    simp only [h1, if_false, hoff, Bool.not_false, Bool.and_true]
    exact ⟨fun _ => hleft, hrx, fun hd => ⟨hleft, (hdx hd).2⟩⟩

/-- The same for the receive count. -/
theorem received_enables {s : State} (v : Byte) (h : EnablesFollowCounts s) : EnablesFollowCounts (received v s) := by
  obtain ⟨htx, hrx, hdx⟩ := h
  simp only [EnablesFollowCounts, received_ie, hasFlag_and_not]
  by_cases h1 : s.ctx.rxRemaining = 1#16
  · have hoff : hasFlag .rxp 0x5#32 = true ∧ hasFlag .dxp 0x5#32 = true ∧ hasFlag .txp 0x5#32 = false := by decide
    simpa [h1, hoff] using show _ → (received v s).ctx.txRemaining ≠ 0#16 from htx
  · have hleft : (received v s).ctx.rxRemaining ≠ 0#16 := fun h0 => h1 ((count_sub_one_eq_zero_iff _).mp h0)
    have hoff : ∀ f, hasFlag f 0#32 = false := by simp [hasFlag]
    simp only [h1, if_false, hoff, Bool.not_false, Bool.and_true]
    exact ⟨htx, fun _ => hleft, fun hd => ⟨(hdx hd).1, hleft⟩⟩

theorem sent_counters {s : State} (hr : s.ctx.txRemaining ≠ 0#16) (h : CountersAddUp s) : CountersAddUp (sent s) := by
  intro hb
  have hc := h hb
  rw [txTotal_sent hr hc.1]
  exact hc

theorem received_counters {s : State} (v : Byte) (hr : s.ctx.rxRemaining ≠ 0#16) (h : CountersAddUp s) :
    CountersAddUp (received v s) := by
  intro hb
  have hc := h hb
  have ⟨_, hrx, _⟩ := hc
  rw [rxTotal_received hr hrx]
  exact hc

namespace StateInv
variable {s t : State} (h : StateInv s)
include h

theorem sent (hr : s.ctx.txRemaining ≠ 0#16) : StateInv (sent s) :=
  { h with
    ieReserved := by
      rw [IeReservedZero, sent_ie]
      exact ieReserved_and_not h.ieReserved
    enables := sent_enables h.enables
    quiet := by
      refine ⟨fun hs => ?_, h.quiet.2⟩
      rw [sent_ie, h.quiet.1 hs, BitVec.zero_and]
    counters := sent_counters hr h.counters }

theorem received (v : Byte) (hr : s.ctx.rxRemaining ≠ 0#16) : StateInv (received v s) :=
  { h with
    memory := by
      rw [Says.received]
      dsimp only
      split
      · exact cellWrite_wf _ _ _ h.memory
      · exact h.memory
    ring := by
      by_cases hv : s.par.rxViaRb = true
      · have hring : (Says.received v s).ring = ringWritten v s := if_pos hv
        rw [RingShaped, hring]
        exact h.ringWritten_shaped v
      · have hring : (Says.received v s).ring = s.ring := if_neg hv
        rw [RingShaped, hring]
        exact h.ring
    ieReserved := by
      rw [IeReservedZero, received_ie]
      exact ieReserved_and_not h.ieReserved
    enables := received_enables v h.enables
    quiet := by
      refine ⟨fun hs => ?_, h.quiet.2⟩
      rw [received_ie, h.quiet.1 hs, BitVec.zero_and]
    counters := received_counters v hr h.counters }

theorem txMoveIf (hm : txMoveIf s = some t) : StateInv t := by
  obtain ⟨-, rfl⟩ | ⟨hr, -, rfl⟩ := txMoveIf_eq hm
  · exact h
  · exact h.sent hr

theorem rxMoveIf (hm : rxMoveIf s = some t) : StateInv t := by
  obtain ⟨-, rfl⟩ | ⟨hr, -, rfl⟩ := rxMoveIf_eq hm
  · exact h
  · exact h.received _ hr

/-- The start of a transfer: the enables and the size register fit the direction (R109, R114, R115), and R108 has checked the
ends of the buffers. -/
theorem started {kind : CmdKind} {sl rl : Len} {sa ra : Addr} (hk : kind ≠ .none) (ha : StartAllowed sl sa rl ra s) :
    StateInv (started kind sl sa rl ra s) := by
  have ⟨hinited, _, hlen, _⟩ := ha
  have hcases := started_cases kind sl sa rl ra s hlen
  have hbusy : isBusy (Says.started kind sl sa rl ra s).ctx.state = true := by
    obtain ⟨-, -, hst, -⟩ | ⟨-, -, hst, -⟩ | ⟨-, -, hst, -⟩ := hcases <;> rw [hst] <;> rfl
  exact { h with
    ieReserved := by
      rw [IeReservedZero]
      obtain ⟨-, -, -, hie, -⟩ | ⟨-, -, -, hie, -⟩ | ⟨-, -, -, hie, -⟩ := hcases <;> rw [hie] <;> rfl
    codes := ⟨by rw [legalState_eq, hbusy, Bool.or_true], h.codes.2⟩
    quiet := ⟨fun hst => absurd hbusy (by rw [hst]; decide), hbusy.symm⟩
    enables := started_enables kind sa ra s hlen
    chipSelect := asserted_shaped s.cs h.chipSelect
    sequencer := ⟨by simp [Says.started, hk], by simp [Says.started, hinited]⟩
    counters := started_counters kind ha }

end StateInv

/-- Every effect of an instruction keeps the invariant. -/
theorem Effect.keeps_stateInv {i : Instr} {s t : State} (he : Effect i s t) (h : StateInv s) : StateInv t := by
  cases he with
  | rejected => exact h.invalidRequest
  | init ho => exact h.initialise _ _ _ ho.2
  | xfer _ ha => exact h.started (by decide) ha
  | txonly _ ha => exact h.started (by decide) ha
  | rxonly _ ha => exact h.started (by decide) ha
  | drained _ _ hu => exact (h.memWriteAll hu).rbEmpty.respond ..
  | drainStuck => exact { h with }
  | status => exact h.respondWord ..
  | csassert => exact h.csAssert.respond ..
  | csdeassert => exact h.csDeassert.respond ..
  | irqMoved _ hu hv =>
    have hinvu : StateInv _ := hu.elim (fun e => e ▸ h) h.txMoveIf
    exact (hv.elim (fun e => e ▸ hinvu) hinvu.rxMoveIf).completeHandled
  | irqOther => exact h.stepSix _
  | irqStuck => exact { h with }
  | tick => exact h.tickOp
  | pstep => exact h.periphOp ..
  | failed => exact h.release ..
  | succeeded => exact h.release ..
  | timedOut => exact h.countTimeout.release ..
  | waits => exact h
  | rbWrite => exact h.rbWriteOp _
  | csInit => exact h.csConfigure ..
  | csAssertP => exact h.csAssert
  | csDeassertP => exact h.csDeassert
  | finalize => exact h.finalized
  | cleanup => exact h.cleanedUp
  | errh => exact h.errorHandler _

theorem StateInv.recordModelFault {s : State} (h : StateInv s) (ms : List Move) (n : Nat) :
    StateInv (recordModelFault { s with agenda := ms, freeMoves := n }) := by
  obtain ⟨hstate, hlast, hfault⟩ := h.codes
  exact { h with codes := ⟨hstate, hlast, by simp [hstate, hlast, hfault]⟩ }

/-- Settles O48: a step runs an instruction, whose effects keep the invariant, or the platform stores a byte. -/
theorem everyStepKeepsTheInvariant : Obligations.EveryStepKeepsTheInvariant := by
  intro s t h hst
  obtain ⟨u, ⟨ms, n, rfl⟩, ⟨i, hi⟩ | ⟨a, v, -, rfl⟩ | rfl⟩ := step_next hst
  · exact (effect_of_exec hi).keeps_stateInv (h.recordModelFault ms n)
  · exact (h.recordModelFault ms n).setByte a v
  · exact h.recordModelFault ms n

/-- Settles O47: reset is a quiet state in `Ready`. -/
theorem resetMeetsTheInvariant : Obligations.ResetMeetsTheInvariant := by
  intro par hpar
  refine stateInv_of_ready hpar (resetWith_memory_wf par) ⟨?_, ?_, ?_⟩ rfl rfl rfl rfl rfl ?_ ?_
  · exact List.length_replicate
  · exact BitVec.zero_and
  · exact BitVec.zero_and
  · simp [ChipSelectShaped, State.resetWith]
  · simp [State.resetWith]

end Sys2Proof.Machine
end

section
/-! What the interrupt context leaves alone (R46, R154), and what it does to caller memory and the error count. -/
namespace Sys2Proof.Machine

open Sys2Proof.Says

/-! ## The part of the state that is not the interrupt context's -/

/-- The fields no operation of the interrupt context writes: the caller's own progress, the tick counter, the binding of the
line and the parameters. -/
structure CallersPart where
  seq : Sequencer
  callerStuck : Bool
  t0 : Count
  timeoutCount : Count
  inited : Bool
  result : Bool
  txBase : Addr
  rxBase : Addr
  rxPresent : Bool
  tick : Count
  tsize : Len
  csSw : Bool
  csPort : BitVec 4
  csPin : BitVec 4
  csClk : Bool
  par : Params

/-- The fields of a state that the interrupt context leaves alone. -/
def State.callersPart (s : State) : CallersPart where
  seq := s.seq
  callerStuck := s.callerStuck
  t0 := s.ctx.t0
  timeoutCount := s.ctx.timeoutCount
  inited := s.ctx.inited
  result := s.ctx.result
  txBase := s.ctx.txBase
  rxBase := s.ctx.rxBase
  rxPresent := s.ctx.rxPresent
  tick := s.tick
  tsize := s.p.tsize
  csSw := s.cs.sw
  csPort := s.cs.port
  csPin := s.cs.pin
  csClk := s.cs.clk
  par := s.par

/-- What holds between the states before and after any operation of the interrupt context: the caller's part and
the schedule are the same, an overrun stays recorded (R87), and a hardware-managed line is not driven (R98). -/
structure InterruptFrame (s t : State) : Prop where
  part : t.callersPart = s.callersPart
  agenda : t.agenda = s.agenda
  overrun : s.ring.bovr = true → t.ring.bovr = true
  line : s.cs.sw = false → t.cs.out = s.cs.out

namespace InterruptFrame

theorem refl (s : State) : InterruptFrame s s := ⟨rfl, rfl, id, fun _ => rfl⟩

theorem trans {s t u : State} (h : InterruptFrame s t) (h' : InterruptFrame t u) : InterruptFrame s u where
  part := h'.part.trans h.part
  agenda := h'.agenda.trans h.agenda
  overrun := h'.overrun ∘ h.overrun
  line hs := (h'.line ((congrArg CallersPart.csSw h.part).trans hs)).trans (h.line hs)

variable {s t : State} (h : InterruptFrame s t)
include h

theorem timeoutCount : t.ctx.timeoutCount = s.ctx.timeoutCount := congrArg CallersPart.timeoutCount h.part

theorem inited : t.ctx.inited = s.ctx.inited := congrArg CallersPart.inited h.part

theorem csSw : t.cs.sw = s.cs.sw := congrArg CallersPart.csSw h.part

theorem csClk : t.cs.clk = s.cs.clk := congrArg CallersPart.csClk h.part

end InterruptFrame

/-! The line's end of a transfer -/

@[simp] theorem deasserted_sw (c : ChipSelect) : (deasserted c).sw = c.sw := by
  rw [deasserted]; split <;> rfl
@[simp] theorem deasserted_port (c : ChipSelect) : (deasserted c).port = c.port := by
  rw [deasserted]; split <;> rfl
@[simp] theorem deasserted_pin (c : ChipSelect) : (deasserted c).pin = c.pin := by
  rw [deasserted]; split <;> rfl
@[simp] theorem deasserted_clk (c : ChipSelect) : (deasserted c).clk = c.clk := by
  rw [deasserted]; split <;> rfl

theorem deasserted_of_hardware {c : ChipSelect} (h : c.sw = false) : deasserted c = c := by
  simp [deasserted, h]

theorem ringWritten_bovr {s : State} (v : Byte) (h : s.ring.bovr = true) : (ringWritten v s).bovr = true := by
  rw [ringWritten]
  split
  · rfl
  · exact h

theorem interruptFrame_sent (s : State) : InterruptFrame s (sent s) := ⟨rfl, rfl, id, fun _ => rfl⟩

theorem interruptFrame_received (v : Byte) (s : State) : InterruptFrame s (received v s) where
  part := rfl
  agenda := rfl
  overrun h := by
    rw [received]
    dsimp only
    split
    · exact ringWritten_bovr v h
    · exact h
  line _ := rfl

theorem interruptFrame_finalized (s : State) : InterruptFrame s (finalized s) := by
  rw [finalized]
  split
  · exact ⟨by simp [State.callersPart], rfl, id, fun hs => congrArg ChipSelect.out (deasserted_of_hardware hs)⟩
  · exact .refl s

theorem interruptFrame_cleanedUp (s : State) : InterruptFrame s (cleanedUp s) :=
  ⟨by simp [State.callersPart, cleanedUp], rfl, id, fun hs => congrArg ChipSelect.out (deasserted_of_hardware hs)⟩

theorem interruptFrame_errorHandler (sr0 : Reg) (s : State) : InterruptFrame s (errorHandler sr0 s) := by
  obtain h | h | ⟨f, fs, -, h⟩ := errorHandler_cases sr0 s
  · exact h ▸ ⟨rfl, rfl, id, fun _ => rfl⟩
  · exact h.symm ▸ .refl s
  · rw [h, recover_eq]
    exact ⟨by simp [State.callersPart], rfl, id, fun hs => congrArg ChipSelect.out (deasserted_of_hardware hs)⟩

theorem interruptFrame_completeHandled (s : State) : InterruptFrame s (completeHandled s) := by
  rw [completeHandled_eq, stepFive]
  split
  · split
    · exact interruptFrame_finalized s
    · exact interruptFrame_cleanedUp s
  · exact .refl s

theorem interruptFrame_stepSix (sr0 : Reg) (s : State) : InterruptFrame s (stepSix sr0 s) := by
  rw [stepSix, finalizeOp_eq]
  exact (interruptFrame_finalized s).trans (interruptFrame_errorHandler sr0 _)

theorem interruptFrame_txMoveIf {s t : State} (h : txMoveIf s = some t) : InterruptFrame s t := by
  obtain ⟨-, rfl⟩ | ⟨-, -, rfl⟩ := txMoveIf_eq h
  · exact .refl _
  · exact interruptFrame_sent s

theorem interruptFrame_rxMoveIf {s t : State} (h : rxMoveIf s = some t) : InterruptFrame s t := by
  obtain ⟨-, rfl⟩ | ⟨-, -, rfl⟩ := rxMoveIf_eq h
  · exact .refl _
  · exact interruptFrame_received _ s

theorem interruptFrame_of_eq_or {s u : State} {f : State → Option State}
    (hf : f s = some u → InterruptFrame s u) (h : u = s ∨ f s = some u) : InterruptFrame s u :=
  h.elim (fun e => e ▸ .refl s) hf

/-- An invocation keeps to the interrupt context. -/
theorem Effect.interruptFrame_of_irq {s t : State} (h : Effect .irq s t) : InterruptFrame s t := by
  cases h with
  | rejected hi => cases hi
  | irqMoved _ hu hv =>
    exact ((interruptFrame_of_eq_or interruptFrame_txMoveIf hu).trans
      (interruptFrame_of_eq_or interruptFrame_rxMoveIf hv)).trans (interruptFrame_completeHandled _)
  | irqOther => exact interruptFrame_stepSix _ s
  | irqStuck => exact ⟨rfl, rfl, id, fun _ => rfl⟩

/-- Settles O34: none of the operations of an invocation writes the caller's part. -/
theorem invocationLeavesTheCallerAlone : Obligations.InvocationLeavesTheCallerAlone := by
  intro s t h
  have hpart := (effect_of_exec h).interruptFrame_of_irq.part
  simpa [State.callersPart] using hpart

/-! ## Caller memory -/

theorem finalized_mem (s : State) : (finalized s).mem = s.mem := by
  rw [finalized]
  split <;> rfl

theorem completeHandled_mem (s : State) : (completeHandled s).mem = s.mem := by
  rw [completeHandled_eq, stepFive]
  split
  · split
    · exact finalized_mem s
    · rfl
  · rfl

theorem errorHandler_mem (sr0 : Reg) (s : State) : (errorHandler sr0 s).mem = s.mem := by
  obtain h | h | ⟨f, fs, -, h⟩ := errorHandler_cases sr0 s
  · rw [h, clearFlagEv_mem]
  · rw [h]
  · rw [h, recover_eq]

theorem stepSix_mem (sr0 : Reg) (s : State) : (stepSix sr0 s).mem = s.mem := by
  rw [stepSix, finalizeOp_eq, errorHandler_mem, finalized_mem]

/-- What an operation of the interrupt context can do to caller memory: nothing, or store one byte at `rx_base + rx_idx`
(R134). -/
def StoresAtMostTheReceivedByte (s t : State) : Prop :=
  t.mem = s.mem ∨ (ReceivesToMemory s ∧ ∃ v, t.mem = cellWrite s.mem (recvAddr s).toNat v)

theorem txMoveIf_keeps_receive_path {s t : State} (h : txMoveIf s = some t) :
    t.mem = s.mem ∧ (ReceivesToMemory t ↔ ReceivesToMemory s) ∧ recvAddr t = recvAddr s := by
  obtain ⟨-, rfl⟩ | ⟨-, -, rfl⟩ := txMoveIf_eq h
  · exact ⟨rfl, .rfl, rfl⟩
  · exact ⟨rfl, .rfl, rfl⟩

theorem rxMoveIf_stores {s t : State} (h : rxMoveIf s = some t) : StoresAtMostTheReceivedByte s t := by
  obtain ⟨-, rfl⟩ | ⟨-, -, rfl⟩ := rxMoveIf_eq h
  · exact .inl rfl
  · by_cases hm : ReceivesToMemory s
    · exact .inr ⟨hm, rxDraw s, if_pos hm⟩
    · exact .inl (if_neg hm)

theorem Effect.stores_of_irq {s t : State} (h : Effect .irq s t) : StoresAtMostTheReceivedByte s t := by
  cases h with
  | rejected hi => cases hi
  | @irqMoved _ u v _ hu hv =>
    have hpath : u.mem = s.mem ∧ (ReceivesToMemory u ↔ ReceivesToMemory s) ∧ recvAddr u = recvAddr s := by
      obtain rfl | hu := hu
      · exact ⟨rfl, .rfl, rfl⟩
      · exact txMoveIf_keeps_receive_path hu
    obtain ⟨hmem, hto, haddr⟩ := hpath
    have hstore : StoresAtMostTheReceivedByte u v := hv.elim (fun e => .inl (congrArg State.mem e)) rxMoveIf_stores
    rwa [StoresAtMostTheReceivedByte, completeHandled_mem, ← hmem, ← hto, ← haddr]
  | irqOther => exact .inl (stepSix_mem _ s)
  | irqStuck => exact .inl rfl

/-- Settles O30: memory is as before, or differs by the one byte at `recvAddr`. -/
theorem invocationStoresOnlyTheReceivedByte : Obligations.InvocationStoresOnlyTheReceivedByte := by
  intro s t hwf h
  obtain hmem | ⟨hto, v, hmem⟩ := (effect_of_exec h).stores_of_irq
  · have hread : ∀ a, byteAt t a = byteAt s a := fun a => by rw [byteAt, hmem, byteAt]
    exact ⟨fun a _ _ => hread a, fun a _ => hread a⟩
  · refine ⟨fun a _ ha => ?_, fun a hnot => absurd hto hnot⟩
    have hset : byteAt t a = byteAt (setByte s (recvAddr s) v) a := by rw [byteAt, hmem]; rfl
    rw [hset, byteAt_setByte s _ _ v hwf, if_neg ha]

/-- Settles O52: of the operations outside an invocation, only a drain has memory among the fields it writes. -/
theorem onlyIrqAndDrainStore : Obligations.OnlyIrqAndDrainStore := by
  intro s t i h hirq hdrain
  cases effect_of_exec h with
  | irqMoved | irqOther | irqStuck => exact absurd rfl hirq
  | drained | drainStuck => exact absurd rfl (hdrain _)
  | init => rw [initialise_eq]
  | csassert => rw [respond_mem, csAssert_eq]
  | csdeassert => rw [respond_mem, csDeassert_eq]
  | csInit => rw [csConfigure_frame]
  | csAssertP => rw [csAssert_eq]
  | csDeassertP => rw [csDeassert_eq]
  | finalize => exact finalized_mem s
  | errh => exact errorHandler_mem _ s
  | rejected | xfer | txonly | rxonly | status | tick | pstep | failed | succeeded | timedOut | waits | rbWrite
    | cleanup => rfl

/-! ## The error count (R29) -/

theorem finalized_errorCount (s : State) : (finalized s).ctx.errorCount = s.ctx.errorCount := by
  rw [finalized]
  split <;> rfl

theorem completeHandled_errorCount (s : State) : (completeHandled s).ctx.errorCount = s.ctx.errorCount := by
  rw [completeHandled_eq, stepFive]
  split
  · split
    · exact finalized_errorCount s
    · rfl
  · rfl

theorem errorHandler_errorCount (sr0 : Reg) (s : State) :
    (errorHandler sr0 s).ctx.errorCount = s.ctx.errorCount
      ∨ (errorHandler sr0 s).ctx.errorCount = s.ctx.errorCount + 1#32 := by
  obtain h | h | ⟨f, fs, -, h⟩ := errorHandler_cases sr0 s
  · exact .inl (by rw [h, clearFlagEv_ctx])
  · exact .inl (by rw [h])
  · exact .inr (by rw [h, recover_eq])

theorem txMoveIf_errorCount {s t : State} (h : txMoveIf s = some t) : t.ctx.errorCount = s.ctx.errorCount := by
  obtain ⟨-, rfl⟩ | ⟨-, -, rfl⟩ := txMoveIf_eq h <;> rfl

theorem rxMoveIf_errorCount {s t : State} (h : rxMoveIf s = some t) : t.ctx.errorCount = s.ctx.errorCount := by
  obtain ⟨-, rfl⟩ | ⟨-, -, rfl⟩ := rxMoveIf_eq h <;> rfl

/-- An invocation counts at most one error, in step 6. -/
theorem Effect.errorCount_of_irq {s t : State} (h : Effect .irq s t) :
    t.ctx.errorCount = s.ctx.errorCount ∨ t.ctx.errorCount = s.ctx.errorCount + 1#32 := by
  cases h with
  | rejected hi => cases hi
  | @irqMoved _ u v _ hu hv =>
    have htx : u.ctx.errorCount = s.ctx.errorCount := hu.elim (fun e => by rw [e]) txMoveIf_errorCount
    have hrx : v.ctx.errorCount = u.ctx.errorCount := hv.elim (fun e => by rw [e]) rxMoveIf_errorCount
    exact .inl (by rw [completeHandled_errorCount, hrx, htx])
  | irqOther =>
    rw [stepSix, finalizeOp_eq, ← finalized_errorCount s]
    exact errorHandler_errorCount _ _
  | irqStuck => exact .inl rfl

end Sys2Proof.Machine
end

section
/-! What the instructions keep, each statement by the cases of their effects. -/
namespace Sys2Proof.Machine

open Sys2Proof.Says

/-! ## Diagnostic counters and the overrun flag -/

theorem memWriteAll_frame {a : Addr} {vs : List Byte} {s t : State} (h : memWriteAll a vs s = some t) :
    ∃ m es, t = { s with mem := m, history := s.history ++ es } := by
  obtain ⟨⟨es, ht⟩, -⟩ := memWriteAll_some h
  exact ⟨_, es, ht⟩

/-- Settles O56: the error count is the handler's, the timeout count the wait's. -/
theorem diagnosticCountersOnlyCount : Obligations.DiagnosticCountersOnlyCount := by
  intro s t i h hinit
  have he := effect_of_exec h
  have hirq : i = .irq → Effect .irq s t := fun e => e ▸ he
  cases he with
  | init => cases hinit
  | irqMoved | irqOther | irqStuck =>
    exact ⟨(hirq rfl).errorCount_of_irq.imp_right fun hc => ⟨.inl rfl, hc⟩,
      .inl (hirq rfl).interruptFrame_of_irq.timeoutCount⟩
  | errh =>
    exact ⟨(errorHandler_errorCount _ s).imp_right fun hc => ⟨.inr ⟨_, rfl⟩, hc⟩,
      .inl (interruptFrame_errorHandler _ s).timeoutCount⟩
  | finalize => exact ⟨.inl (finalized_errorCount s), .inl (interruptFrame_finalized s).timeoutCount⟩
  | timedOut => exact ⟨.inl rfl, .inr ⟨rfl, rfl⟩⟩
  | drained _ _ hu =>
    obtain ⟨m, es, rfl⟩ := memWriteAll_frame hu
    exact ⟨.inl rfl, .inl rfl⟩
  | csassert | csAssertP => simp [csAssert_eq]
  | csdeassert | csDeassertP => simp [csDeassert_eq]
  | csInit => simp [csConfigure_frame]
  | rejected | xfer | txonly | rxonly | drainStuck | status | tick | pstep | failed | succeeded | waits | rbWrite
    | cleanup => exact ⟨.inl rfl, .inl rfl⟩

/-- Settles O58. -/
theorem overrunFlagIsSticky : Obligations.OverrunFlagIsSticky := by
  intro s t i h hinit hb
  have he := effect_of_exec h
  have hirq : i = .irq → Effect .irq s t := fun e => e ▸ he
  cases he with
  | init => cases hinit
  | irqMoved | irqOther | irqStuck => exact (hirq rfl).interruptFrame_of_irq.overrun hb
  | errh => exact (interruptFrame_errorHandler _ s).overrun hb
  | finalize => exact (interruptFrame_finalized s).overrun hb
  | rbWrite =>
    rw [rbWriteOp_ring, rbWriteRing_eq]
    exact ringWritten_bovr _ hb
  | drained _ _ hu =>
    obtain ⟨m, es, rfl⟩ := memWriteAll_frame hu
    exact hb
  | csassert | csAssertP => simpa [csAssert_eq] using hb
  | csdeassert | csDeassertP => simpa [csDeassert_eq] using hb
  | csInit => simpa [csConfigure_frame] using hb
  | rejected | xfer | txonly | rxonly | drainStuck | status | tick | pstep | failed | succeeded | timedOut | waits
    | cleanup => exact hb

/-! ## What `INIT` has set -/

@[simp] theorem asserted_clk (c : ChipSelect) : (asserted c).clk = c.clk := by
  rw [asserted]; split <;> rfl

/-- What every instruction keeps: the schedule, and the two bits that nothing but reset takes back (R171). -/
structure KeepsSetUp (s t : State) : Prop where
  agenda : t.agenda = s.agenda
  inited : s.ctx.inited = true → t.ctx.inited = true
  clk : s.cs.clk = true → t.cs.clk = true

theorem InterruptFrame.keepsSetUp {s t : State} (h : InterruptFrame s t) : KeepsSetUp s t :=
  ⟨h.agenda, h.inited.trans, h.csClk.trans⟩

theorem keepsSetUp_csAssert (s : State) : KeepsSetUp s (csAssert s) := by
  rw [csAssert_eq]
  exact ⟨rfl, id, (asserted_clk s.cs).trans⟩

theorem keepsSetUp_csDeassert (s : State) : KeepsSetUp s (csDeassert s) := by
  rw [csDeassert_eq]
  exact ⟨rfl, id, (deasserted_clk s.cs).trans⟩

theorem Effect.keepsSetUp {i : Instr} {s t : State} (he : Effect i s t) : KeepsSetUp s t := by
  have hirq : i = .irq → Effect .irq s t := fun e => e ▸ he
  cases he with
  | @init sw =>
    rw [initialise_eq]
    exact ⟨rfl, fun _ => rfl, by cases sw <;> simp⟩
  | @csInit sw =>
    rw [csConfigure_frame]
    exact ⟨rfl, id, by cases sw <;> simp⟩
  | irqMoved | irqOther | irqStuck => exact (hirq rfl).interruptFrame_of_irq.keepsSetUp
  | errh => exact (interruptFrame_errorHandler _ s).keepsSetUp
  | finalize => exact (interruptFrame_finalized s).keepsSetUp
  | cleanup => exact (interruptFrame_cleanedUp s).keepsSetUp
  | drained _ _ hu =>
    obtain ⟨m, es, rfl⟩ := memWriteAll_frame hu
    exact ⟨rfl, id, id⟩
  | xfer | txonly | rxonly => exact ⟨rfl, id, (asserted_clk s.cs).trans⟩
  | csassert | csAssertP => exact { keepsSetUp_csAssert s with }
  | csdeassert | csDeassertP => exact { keepsSetUp_csDeassert s with }
  | rejected | drainStuck | status | tick | pstep | failed | succeeded | timedOut | waits | rbWrite => exact ⟨rfl, id, id⟩

/-- Settles O57: neither an instruction nor a store takes a bit back. -/
theorem initedAndClockStaySet : Obligations.InitedAndClockStaySet := by
  intro s t h
  obtain ⟨u, ⟨ms, n, rfl⟩, ⟨i, hi⟩ | ⟨a, v, -, rfl⟩ | rfl⟩ := step_next h
  · obtain ⟨-, hinited, hclk⟩ := (effect_of_exec hi).keepsSetUp
    exact ⟨hinited, hclk⟩
  · exact ⟨id, id⟩
  · exact ⟨id, id⟩

/-! ## The caller beside a running transfer -/

/-- Settles O59: while Busy a start and a chip-select command are refused, and what else the caller does is an answer. -/
theorem callerLeavesABusyTransferAlone : Obligations.CallerLeavesABusyTransferAlone := by
  intro s t i hagent hinit hbusy h
  have hready : s.ctx.state ≠ .ready := fun hr => by simp [hr, isBusy] at hbusy
  cases effect_of_exec h with
  | init => cases hinit
  | xfer _ ha | txonly _ ha | rxonly _ ha =>
    obtain ⟨-, hr, -⟩ := ha
    exact absurd hr hready
  | csassert _ _ hr | csdeassert _ _ hr => exact absurd hr hready
  | drained _ _ hu =>
    obtain ⟨m, es, rfl⟩ := memWriteAll_frame hu
    exact ⟨rfl, rfl, rfl, rfl, rfl, rfl⟩
  | rejected | drainStuck | status | failed | succeeded | timedOut | waits => exact ⟨rfl, rfl, rfl, rfl, rfl, rfl⟩
  | irqMoved | irqOther | irqStuck | tick | pstep | rbWrite | csInit | csAssertP | csDeassertP | finalize | cleanup | errh =>
    cases hagent

/-! ## Before `INIT` -/

theorem InterruptFrame.undrivenBeforeInit {s t : State} (hf : InterruptFrame s t) (h : UndrivenBeforeInit s) :
    UndrivenBeforeInit t := by
  intro hi
  obtain ⟨hout, hsw⟩ := h (hf.inited.symm.trans hi)
  exact ⟨(hf.line hsw).trans hout, hf.csSw.trans hsw⟩

theorem undrivenBeforeInit_of_inited {t : State} (h : t.ctx.inited = true) : UndrivenBeforeInit t :=
  fun hi => absurd (h.symm.trans hi) (by decide)

/-- An agent's step drives a pin before `INIT` no more than the state before it did: `INIT` itself sets `inited`, and every
other command that drives the line asks for it (R38, R101). -/
theorem Effect.keeps_undrivenBeforeInit {i : Instr} {s t : State} (he : Effect i s t) (ha : i.agent.isSome = true)
    (h : UndrivenBeforeInit s) : UndrivenBeforeInit t := by
  have hirq : i = .irq → Effect .irq s t := fun e => e ▸ he
  have hinited : s.ctx.inited = true → UndrivenBeforeInit t :=
    fun hi => undrivenBeforeInit_of_inited (he.keepsSetUp.inited hi)
  cases he with
  | init => exact undrivenBeforeInit_of_inited (by rw [initialise_eq])
  | xfer _ hs | txonly _ hs | rxonly _ hs => exact hinited hs.1
  | csassert _ hi _ | csdeassert _ hi _ => exact hinited hi
  | irqMoved | irqOther | irqStuck => exact (hirq rfl).interruptFrame_of_irq.undrivenBeforeInit h
  | drained _ hi _ => exact hinited hi
  | rejected | drainStuck | status | tick | pstep | failed | succeeded | timedOut | waits => exact h
  | rbWrite | csInit | csAssertP | csDeassertP | finalize | cleanup | errh => cases ha

theorem agent_isSome_of_enabledStep {i : Instr} {s : State} (h : enabledStep i s = true) : i.agent.isSome = true := by
  cases i
  case rbWrite | csInit | csAssertP | csDeassertP | finalize | cleanup | errh => cases h
  all_goals rfl

theorem agentMove_word {c : Channel} {w : CmdWord} {i : Instr} (hd : decodeWord c w = .ok i) :
    agentMove (.word c w) = i.agent.isSome := by
  rw [agentMove, hd]

/-- Everything a step can do while the schedule holds agents' moves only: an agent's step, a store, or a free pick passed
over. -/
theorem step_next_of_agentsOnly {s t : State} (hs : AgentsOnly s) (h : step s = .next t) :
    ∃ u, (∃ ms n, u = recordModelFault { s with agenda := ms, freeMoves := n }) ∧ AgentsOnly u
      ∧ ((∃ i, i.agent.isSome = true ∧ exec i u = .next t) ∨ (∃ a v, t = setByte u a v) ∨ t = u) := by
  cases hag : s.agenda with
  | cons m rest =>
    rw [step_of_scheduled hag] at h
    have hall : ∀ m' ∈ m :: rest, agentMove m' = true := hag ▸ hs
    refine ⟨_, ⟨rest, s.freeMoves, rfl⟩, fun m' hm' => hall m' (List.mem_cons_of_mem m hm'), ?_⟩
    obtain ⟨c, w, i, rfl, hd, hi⟩ | ⟨a, v, -, -, hav⟩ := runMove_next h
    · exact .inl ⟨i, (agentMove_word hd).symm.trans (hall _ (List.mem_cons_self ..)), hi⟩
    · exact .inr (.inl ⟨a, v, hav⟩)
  | nil =>
    rw [step_of_unscheduled hag] at h
    refine ⟨_, ⟨s.agenda, s.freeMoves + 1, rfl⟩, hs, ?_⟩
    obtain ⟨_, _, i, -, -, hen, hi⟩ | ⟨a, v, -, -, hav⟩ | ht := runFree_next h
    · exact .inl ⟨i, agent_isSome_of_enabledStep hen, hi⟩
    · exact .inr (.inl ⟨a, v, hav⟩)
    · exact .inr (.inr ht)

/-- Settles O53: the schedule only loses moves, and no agent's step drives the line before `INIT`. -/
theorem noPinDrivenBeforeInit : Obligations.NoPinDrivenBeforeInit := by
  intro s t hs hu h
  obtain ⟨u, ⟨ms, n, rfl⟩, ha, ⟨i, hi, hex⟩ | ⟨a, v, rfl⟩ | rfl⟩ := step_next_of_agentsOnly hs h
  · have he := effect_of_exec hex
    exact ⟨by rw [AgentsOnly, he.keepsSetUp.agenda]; exact ha, he.keeps_undrivenBeforeInit hi hu⟩
  · exact ⟨ha, hu⟩
  · exact ⟨ha, hu⟩

end Sys2Proof.Machine
end

section
/-! Reset, the agents outside the block, the gates before a transfer, and the bounded wait. -/
namespace Sys2Proof.Machine

open Sys2Proof.Says

/-! ## Reset and the agents outside the block -/

/-- Settles O50: the history is empty and the line undriven and hardware-managed. -/
theorem resetMeetsTheChipSelectHistory : Obligations.ResetMeetsTheChipSelectHistory :=
  fun _ => ⟨rfl, by simp [ChipSelectShaped, State.resetWith], nofun⟩

/-- Settles O45. -/
theorem tickAdvancesTheCounter : Obligations.TickAdvancesTheCounter := by
  intro s
  have htick : s.tick + 1#32 = BitVec.ofNat 32 (s.tick.toNat + 1) := by
    rw [BitVec.ofNat_add, BitVec.ofNat_toNat, BitVec.setWidth_eq]
  rw [exec_tick, execTick, tickOp, htick]
  rfl

/-- Settles O46: the bits are set and then cleared, and only a given byte replaces the fixed one. -/
theorem peripheralStepChangesPendingFlagsOnly : Obligations.PeripheralStepChangesPendingFlagsOnly := by
  intro s set clr rx
  refine ⟨(s.p.sr ||| set) &&& ~~~ clr, ?_, fun n => ?_⟩
  · rw [exec_pstep, execPstep, periphOp]
    cases rx <;> rfl
  · by_cases hn : n < 32
    · simp [hn]
    · simp [BitVec.getLsbD_of_ge _ n (not_lt.mp hn)]

/-! ## Gates -/

/-- Step 3 of the decode order turns away every body that asks for `inited` (R38, R71). -/
theorem onPort_ifInited_of_uninitialised (f : State → State) {s : State} (ho : PortOpen s) (hi : s.ctx.inited = false) :
    onPort (ifInited f) s = .next (answered false 7 0 s) := by
  rw [onPort_open ho, ifInited, if_neg (by simp [hi]), invalidRequest_eq]

/-- Settles O15: every command but `INIT` and `STATUS` has the gate, and a refused word needs none. -/
theorem commandsNeedInit : Obligations.CommandsNeedInit := by
  intro s i ho hi hc hinit hstatus
  cases i
  case init => cases hinit
  case status => exact absurd rfl hstatus
  case xfer | txonly | rxonly | rbdrain | csassert | csdeassert => exact onPort_ifInited_of_uninitialised _ ho hi
  case reserved => exact (onPort_open ho).trans (congrArg _ (invalidRequest_eq s))
  all_goals cases hc

/-- Settles O31: outside a transfer every source is disabled, so the line is low. -/
theorem noInvocationOutsideTransfers : Obligations.NoInvocationOutsideTransfers := by
  intro s sr h hready hstuck
  have hline : irqLine { s with p := { s.p with sr := sr } } = false := by
    simp [irqLine, causeOf, h.quiet.1 hready]
  rw [exec_irq, execIrq, if_neg (by simp [hstuck]), if_neg (by simp [hline])]

/-! ## The bounded wait -/

/-- `n` ticks of the tick source (R41, R57). -/
def ticked (n : Nat) (s : State) : State :=
  { s with tick := s.tick + BitVec.ofNat 32 n, history := s.history ++ List.replicate n .tick }

theorem execAll_replicate_tick (n : Nat) (s : State) : execAll (List.replicate n .tick) s = .next (ticked n s) := by
  induction n generalizing s with
  | zero => simp [execAll, ticked]
  | succ n ih =>
    have htick : s.tick + 1#32 + BitVec.ofNat 32 n = s.tick + BitVec.ofNat 32 (n + 1) := by
      rw [BitVec.ofNat_add, BitVec.add_assoc, BitVec.add_comm 1#32]
    have hone : ticked n (tickOp s) = ticked (n + 1) s := by
      simp [ticked, tickOp, emit, List.replicate_succ, htick]
    exact (ih (tickOp s)).trans (congrArg _ hone)

theorem timedOut_ticked {n : Nat} {s : State} (ht : s.ctx.t0 = s.tick) (hn : n < 4294967296) :
    timedOut (ticked n s) = decide (s.par.timeoutTicks < n) := by
  have helapsed : (ticked n s).tick - (ticked n s).ctx.t0 = BitVec.ofNat 32 n := by
    simp [ticked, ht]
  rw [timedOut, helapsed, BitVec.toNat_ofNat, Nat.mod_eq_of_lt hn]
  rfl

/-- The wait without an error and without both done flags: only the timeout releases the caller (R116). -/
theorem pollStep_of_pending {s : State} (he : s.ctx.xferErr = false)
    (hd : ¬ (s.ctx.txDone = true ∧ s.ctx.rxDone = true)) :
    pollStep s = if timedOut s = true then release false .timeout (countTimeout s) else s := by
  rw [pollStep, if_neg (by simp [he]), if_neg hd]

/-- Settles O21: after `n` ticks exactly `n` have elapsed, and nothing but the timeout can release the caller. -/
theorem timeoutBoundary : Obligations.TimeoutBoundary := by
  intro s n hw he hd ht hn
  refine ⟨ticked n s, execAll_replicate_tick n s, ?_⟩
  have hwait : Waiting (ticked n s) := hw
  have hpoll := pollStep_of_pending (s := ticked n s) he hd
  rw [exec_poll, execPoll_waiting hwait, hpoll, timedOut_ticked ht hn]
  by_cases hle : n ≤ s.par.timeoutTicks
  · rw [if_pos hle, if_neg (by simpa using hle)]
  · rw [if_neg hle, if_pos (by simpa using hle), release_eq]
    rfl

end Sys2Proof.Machine
end

section
/-! What every step keeps of the history and of the stuck markers (R52, R57). -/
namespace Sys2Proof.Machine

open Sys2Proof.Says

/-! ## Histories and markers only grow -/

/-- What holds between the states before and after any operation: the history is kept as an initial part (R57), and no
set marker of a stuck agent is taken back (R52; log entry 5). -/
structure Grows (s t : State) : Prop where
  history : s.history <+: t.history
  callerStuck : s.callerStuck = true → t.callerStuck = true
  irqStuck : s.irqStuck = true → t.irqStuck = true

theorem Grows.refl (s : State) : Grows s s := ⟨List.prefix_rfl, id, id⟩

theorem Grows.trans {s t u : State} (h : Grows s t) (h' : Grows t u) : Grows s u where
  history := h.history.trans h'.history
  callerStuck := h'.callerStuck ∘ h.callerStuck
  irqStuck := h'.irqStuck ∘ h.irqStuck

theorem grows_csAssert (s : State) : Grows s (csAssert s) := by
  rw [csAssert_eq]
  exact ⟨List.prefix_append .., id, id⟩

theorem grows_csDeassert (s : State) : Grows s (csDeassert s) := by
  rw [csDeassert_eq]
  exact ⟨List.prefix_append .., id, id⟩

theorem grows_started (kind : CmdKind) (sl : Len) (sa : Addr) (rl : Len) (ra : Addr) (s : State) :
    Grows s (started kind sl sa rl ra s) :=
  ⟨by simp [started], id, id⟩

theorem grows_finalized (s : State) : Grows s (finalized s) := by
  rw [finalized]
  split
  · exact ⟨by simp, id, id⟩
  · exact .refl s

theorem grows_cleanedUp (s : State) : Grows s (cleanedUp s) := ⟨List.prefix_append .., id, id⟩

theorem grows_errorHandler (sr0 : Reg) (s : State) : Grows s (errorHandler sr0 s) := by
  obtain h | h | ⟨f, fs, -, h⟩ := errorHandler_cases sr0 s
  · exact h ▸ ⟨List.prefix_append .., id, id⟩
  · exact h.symm ▸ .refl s
  · rw [h, recover_eq]
    exact ⟨by simp, id, id⟩

theorem grows_completeHandled (s : State) : Grows s (completeHandled s) := by
  rw [completeHandled_eq, stepFive]
  split
  · split
    · exact grows_finalized s
    · exact grows_cleanedUp s
  · exact .refl s

theorem grows_stepSix (sr0 : Reg) (s : State) : Grows s (stepSix sr0 s) := by
  rw [stepSix, finalizeOp_eq]
  exact (grows_finalized s).trans (grows_errorHandler sr0 _)

theorem grows_txMoveIf {s t : State} (h : txMoveIf s = some t) : Grows s t := by
  obtain ⟨-, rfl⟩ | ⟨-, -, rfl⟩ := txMoveIf_eq h
  · exact .refl _
  · exact ⟨List.prefix_append .., id, id⟩

theorem grows_rxMoveIf {s t : State} (h : rxMoveIf s = some t) : Grows s t := by
  obtain ⟨-, rfl⟩ | ⟨-, -, rfl⟩ := rxMoveIf_eq h
  · exact .refl _
  · exact ⟨by simp [received], id, id⟩

/-- Every effect of an instruction adds to the history and keeps the markers. -/
theorem Effect.grows {i : Instr} {s t : State} (he : Effect i s t) : Grows s t := by
  cases he with
  | init =>
    rw [initialise_eq]
    exact ⟨by simp, id, id⟩
  | xfer | txonly | rxonly => exact grows_started ..
  | drained _ _ hu =>
    obtain ⟨m, es, rfl⟩ := memWriteAll_frame hu
    exact ⟨List.prefix_append .., id, id⟩
  | drainStuck => exact ⟨List.prefix_rfl, fun _ => rfl, id⟩
  | csassert => exact { grows_csAssert s with }
  | csdeassert => exact { grows_csDeassert s with }
  | @irqMoved _ u v _ hu hv =>
    have htx : Grows s u := hu.elim (fun e => e ▸ .refl s) grows_txMoveIf
    have hrx : Grows u v := hv.elim (fun e => e ▸ .refl u) grows_rxMoveIf
    exact (htx.trans hrx).trans (grows_completeHandled v)
  | irqOther => exact grows_stepSix _ s
  | irqStuck => exact ⟨List.prefix_rfl, id, fun _ => rfl⟩
  | csInit =>
    rw [csConfigure_frame]
    exact ⟨List.prefix_append .., id, id⟩
  | csAssertP => exact grows_csAssert s
  | csDeassertP => exact grows_csDeassert s
  | finalize => exact grows_finalized s
  | cleanup => exact grows_cleanedUp s
  | errh => exact grows_errorHandler _ s
  | tick | failed | succeeded | timedOut => exact ⟨List.prefix_append .., id, id⟩
  | rejected | status | pstep | waits | rbWrite => exact ⟨List.prefix_rfl, id, id⟩

/-- The schedule, the model-fault record and a platform store are no actions of the block; its instructions only add. -/
theorem grows_of_step {s t : State} (h : step s = .next t) : Grows s t := by
  obtain ⟨u, ⟨ms, n, rfl⟩, ⟨i, hi⟩ | ⟨a, v, -, rfl⟩ | rfl⟩ := step_next h
  · exact { (effect_of_exec hi).grows with }
  · exact ⟨List.prefix_rfl, id, id⟩
  · exact ⟨List.prefix_rfl, id, id⟩

/-- Settles O49. -/
theorem historyIsAppendOnly : Obligations.HistoryIsAppendOnly := by
  intro s t h
  obtain ⟨es, hes⟩ := (grows_of_step h).history
  exact ⟨es, hes.symm⟩

/-! ## An invocation that meets no memory -/

theorem duplexReady_iff {s : State} : duplexReady (causeOf s) = true ↔ Duplex s := by
  simp [duplexReady, causeOf, and_assoc]

theorem invocation_of_duplex {s : State} (hd : Duplex s) :
    invocation s = ((txMoveIf s).bind rxMoveIf).map completeHandled := by
  rw [invocation, if_pos (duplexReady_iff.mpr hd)]

theorem invocation_of_rxp {s : State} (hd : ¬ Duplex s) (hr : inCause .rxp s) :
    invocation s = (rxMoveIf s).map completeHandled := by
  rw [invocation, if_neg (mt duplexReady_iff.mp hd)]
  exact if_pos hr

theorem invocation_of_txp {s : State} (hd : ¬ Duplex s) (hr : ¬ inCause .rxp s) (ht : inCause .txp s) :
    invocation s = (txMoveIf s).map completeHandled := by
  rw [invocation, if_neg (mt duplexReady_iff.mp hd)]
  exact (if_neg hr).trans (if_pos ht)

theorem txMoveIf_eq_none {s : State} (h : ¬ SendReachable s) : txMoveIf s = none := by
  refine Option.eq_none_iff_forall_ne_some.mpr fun t ht => h fun hne => ?_
  obtain ⟨h0, -⟩ | ⟨-, ha, -⟩ := txMoveIf_eq ht
  · exact absurd h0 hne
  · exact ha

theorem rxMoveIf_eq_none {s : State} (h : ¬ RecvReachable s) : rxMoveIf s = none := by
  refine Option.eq_none_iff_forall_ne_some.mpr fun t ht => h fun hne => ?_
  obtain ⟨h0, -⟩ | ⟨-, ha, -⟩ := rxMoveIf_eq ht
  · exact absurd h0 hne
  · exact ha

/-- The transmit move leaves what the reach of the receive move depends on. -/
theorem recvReachable_iff_of_txMoveIf {s t : State} (h : txMoveIf s = some t) :
    RecvReachable t ↔ RecvReachable s := by
  obtain ⟨-, rfl⟩ | ⟨-, -, rfl⟩ := txMoveIf_eq h
  · exact .rfl
  · exact .rfl

theorem invocation_eq_none_of_send {s : State} (hc : Duplex s ∨ (¬ inCause .rxp s ∧ inCause .txp s))
    (h : ¬ SendReachable s) : invocation s = none := by
  by_cases hd : Duplex s
  · rw [invocation_of_duplex hd, txMoveIf_eq_none h]; rfl
  · obtain ⟨hr, ht⟩ := hc.resolve_left hd
    rw [invocation_of_txp hd hr ht, txMoveIf_eq_none h]; rfl

theorem invocation_eq_none_of_recv {s : State} (hc : Duplex s ∨ inCause .rxp s) (h : ¬ RecvReachable s) :
    invocation s = none := by
  by_cases hd : Duplex s
  · rw [invocation_of_duplex hd]
    cases hu : txMoveIf s with
    | none => rfl
    | some u =>
      have hv : rxMoveIf u = none := rxMoveIf_eq_none (mt (recvReachable_iff_of_txMoveIf hu).mp h)
      rw [Option.bind_some, hv]; rfl
  · rw [invocation_of_rxp hd (hc.resolve_left hd), rxMoveIf_eq_none h]; rfl

/-- Settles O29: the invocation has no outcome where a byte move has none, and no step takes the marker back. -/
theorem unreachableMemoryLeavesIrqStuck : Obligations.UnreachableMemoryLeavesIrqStuck := by
  refine ⟨fun s hready hmiss => ?_, fun s => execIrq_stuck, fun s t hs h => (grows_of_step h).irqStuck hs⟩
  have hnone : invocation s = none := by
    obtain ⟨hmove, hmem⟩ | ⟨hmove, hmem⟩ := hmiss
    · exact invocation_eq_none_of_send hmove hmem
    · exact invocation_eq_none_of_recv hmove hmem
  rw [exec_irq, execIrq_ready hready, hnone]
  rfl

/-! ## A drain that meets no memory -/

theorem plus_add_one (a : Addr) (k : Nat) : plus a (k + 1) = plus (a + 1#32) k := by
  rw [plus, plus, BitVec.add_assoc, BitVec.ofNat_add, BitVec.add_comm 1#32]

/-- A run of stores that ends has had memory at each of its addresses. -/
theorem memAdmits_of_memWriteAll {a : Addr} {vs : List Byte} {s t : State} (h : memWriteAll a vs s = some t) :
    ∀ k < vs.length, memAdmits s.par (plus a k) = true := by
  induction vs generalizing a s with
  | nil => exact nofun
  | cons v vs ih =>
    rw [memWriteAll] at h
    cases hw : memWrite a v s with
    | none => rw [hw] at h; cases h
    | some u =>
      rw [hw] at h
      obtain ⟨ha, rfl⟩ := memWrite_some hw
      rintro (_ | k) hk
      · simpa [plus] using ha
      · rw [plus_add_one]
        exact ih h k (Nat.lt_of_succ_lt_succ hk)

theorem length_rbUnread (s : State) : (rbUnread s.par s.ring).length = unreadCount s := by
  rw [rbUnread, List.length_map, List.length_range]
  rfl

theorem passesTop_eq_false_iff {a : Addr} {n : Len} : passesTop a n = false ↔ a.toNat + n.toNat ≤ 4294967296 := by
  simp [passesTop]

theorem rbDrain_eq_none {s : State} {d : Addr} (h : ∃ k < unreadCount s, memAdmits s.par (plus d k) = false) :
    rbDrain d s = none := by
  obtain ⟨k, hk, hno⟩ := h
  have hstop : memWriteAll d (rbUnread s.par s.ring) s = none := by
    refine Option.eq_none_iff_forall_ne_some.mpr fun t ht => ?_
    rw [← length_rbUnread] at hk
    exact absurd (memAdmits_of_memWriteAll ht k hk) (by simp [hno])
  rw [rbDrain, hstop]
  rfl

theorem drainCommand_without_memory {s : State} {d : Addr} (htop : d.toNat + unreadCount s ≤ 4294967296)
    (h : ∃ k < unreadCount s, memAdmits s.par (plus d k) = false) :
    drainCommand d s = { s with callerStuck := true } := by
  have hfits : passesTop d (rbCount s.par s.ring) = false := passesTop_eq_false_iff.mpr htop
  rw [drainCommand, if_neg (by simp [hfits]), rbDrain_eq_none h]
  rfl

theorem isCommand_or_poll_of_caller {i : Instr} (h : i.agent = some .caller) : i.isCommand = true ∨ i = .poll := by
  cases i
  case init | xfer | txonly | rxonly | rbdrain | status | csassert | csdeassert | reserved => exact .inl rfl
  case poll => exact .inr rfl
  all_goals cases h

/-- A stuck caller has none of its steps (R52, I21). -/
theorem exec_of_stuck_caller {i : Instr} {s : State} (hs : s.callerStuck = true) (h : i.agent = some .caller) :
    exec i s = .fault .callerHasNoStep := by
  obtain hc | rfl := isCommand_or_poll_of_caller h
  · obtain ⟨f, hf⟩ := exec_of_isCommand hc
    rw [hf, onPort_stuck hs]
  · exact execPoll_stuck hs

/-- Settles O42: the drain's stores have no outcome, and no step takes the marker back. -/
theorem drainWithoutMemoryLeavesCallerStuck : Obligations.DrainWithoutMemoryLeavesCallerStuck := by
  refine ⟨fun s d ho hi htop hno => ?_, fun s i => exec_of_stuck_caller,
    fun s t hs h => (grows_of_step h).callerStuck hs⟩
  rw [exec_rbdrain, execRbdrain, onPort_open ho, ifInited, if_pos hi, drainCommand_without_memory htop hno]

/-! ## Every word of the port has a next state -/

theorem decodePort_isCommand (w : CmdWord) : (decodePort w).isCommand = true := by
  rw [decodePort]
  split
  · rfl
  · split_ifs <;> rfl

theorem lowestBit_append_bitOf {n : Nat} (hi : BitVec n) (b : Bool) : (hi ++ bitOf b).getLsbD 0 = b := by
  rw [BitVec.getLsbD_append, if_pos Nat.one_pos]
  cases b <;> rfl

theorem responseWord_result (r : Bool) (c : ErrKind) (n : RbIdx) : (responseWord r c n).getLsbD 0 = r :=
  lowestBit_append_bitOf _ r

theorem statusWord_result (s : State) : (statusWord s).getLsbD 0 = true := by
  have hlow : (statusLow s).getLsbD 0 = true := lowestBit_append_bitOf _ true
  exact BitVec.getLsbD_append.trans hlow

/-- The command has come to an end or waits: the caller is stuck, a transfer runs, or the response's `RESULT` is
`ctx.result` (R72). -/
def Completes (t : State) : Prop :=
  t.callerStuck = true ∨ t.seq.phase = .wait ∨ (t.seq.phase = .idle ∧ t.ctx.result = t.seq.response.getLsbD 0)

theorem completes_respond {s : State} (r : Bool) (c : ErrKind) (n : RbIdx) (h : s.seq.phase = .idle) :
    Completes (respond r c n s) := .inr (.inr ⟨h, (responseWord_result r c n).symm⟩)

theorem Effect.completes {i : Instr} {s t : State} (he : Effect i s t) (hc : i.isCommand = true) : Completes t := by
  cases he with
  | rejected _ ho => exact completes_respond _ _ _ ho.2
  | init ho =>
    have hresult : (response true 0 0).getLsbD 0 = true := by decide
    rw [initialise_eq]
    exact .inr (.inr ⟨ho.2, hresult.symm⟩)
  | xfer | txonly | rxonly => exact .inr (.inl rfl)
  | drained ho _ hu =>
    obtain ⟨m, es, rfl⟩ := memWriteAll_frame hu
    exact completes_respond _ _ _ ho.2
  | drainStuck => exact .inl rfl
  | status ho => exact .inr (.inr ⟨ho.2, (statusWord_result s).symm⟩)
  | csassert ho => exact completes_respond _ _ _ (by rw [csAssert_eq]; exact ho.2)
  | csdeassert ho => exact completes_respond _ _ _ (by rw [csDeassert_eq]; exact ho.2)
  | irqMoved | irqOther | irqStuck | tick | pstep | failed | succeeded | timedOut | waits | rbWrite | csInit | csAssertP
    | csDeassertP | finalize | cleanup | errh => cases hc

/-- Settles O5: a word of the port is a command, whose gate is open, and each of its effects completes it. -/
theorem everyCommandWordCompletes : Obligations.EveryCommandWordCompletes := by
  intro w s ho
  have hc := decodePort_isCommand w
  obtain ⟨f, hf⟩ := exec_of_isCommand hc
  have hnext : exec (decodePort w) s = .next (f s) := by rw [hf, onPort_open ho]
  exact ⟨f s, hnext, (effect_of_exec hnext).completes hc⟩

end Sys2Proof.Machine
end

section
/-! Words as sequences of fields: which slices a concatenation has, and which slices a reserved-zero mask covers
(R66, R67). -/
namespace Sys2Proof

/-! ## Slices of a concatenation -/

theorem append_inj_iff {a b : Nat} {hi hi' : BitVec a} {lo lo' : BitVec b} :
    hi ++ lo = hi' ++ lo' ↔ lo = lo' ∧ hi = hi' := by
  constructor
  · intro h
    have hlo := congrArg (BitVec.extractLsb' 0 b) h
    have hhi := congrArg (BitVec.extractLsb' b a) h
    simp only [BitVec.extractLsb'_append_eq_right, BitVec.extractLsb'_append_eq_left] at hlo hhi
    exact ⟨hlo, hhi⟩
  · rintro ⟨rfl, rfl⟩
    rfl

/-- A slice is a concatenation exactly when its two parts are. Used again on the parts, it takes a word apart into its
fields, the lowest first. -/
theorem extractLsb'_eq_append_iff {n s a b : Nat} {x : BitVec n} {hi : BitVec a} {lo : BitVec b} :
    x.extractLsb' s (a + b) = hi ++ lo ↔ x.extractLsb' s b = lo ∧ x.extractLsb' (s + b) a = hi := by
  rw [← BitVec.extractLsb'_append_extractLsb'_eq_extractLsb' rfl, append_inj_iff]

theorem eq_append_iff {a b : Nat} {x : BitVec (a + b)} {hi : BitVec a} {lo : BitVec b} :
    x = hi ++ lo ↔ x.extractLsb' 0 b = lo ∧ x.extractLsb' (0 + b) a = hi := by
  rw [← extractLsb'_eq_append_iff, BitVec.extractLsb'_eq_self]

theorem extractLsb'_eq_bitOf_iff {n i : Nat} {x : BitVec n} {b : Bool} :
    x.extractLsb' i 1 = bitOf b ↔ x.getLsbD i = b := by
  have hx : x.extractLsb' i 1 = bitOf (x.getLsbD i) := by
    ext k hk
    obtain rfl : k = 0 := by omega
    simp [bitOf]
  rw [hx]
  cases x.getLsbD i <;> cases b <;> decide

/-! ## Reserved-zero masks -/

/-- The word with ones in the `len` bits from `start` up, and nowhere else. -/
def fieldMask (start len : Nat) : CmdWord := (BitVec.allOnes len).setWidth 128 <<< start

theorem getElem_fieldMask {start len k : Nat} (hk : k < 128) :
    (fieldMask start len)[k] = decide (start ≤ k ∧ k < start + len) := by
  by_cases hs : start ≤ k
  · simp [fieldMask, hs, Nat.sub_lt_iff_lt_add' hs]
  · simp [fieldMask, hs]

theorem and_fieldMask_eq_zero_iff {w : CmdWord} {start len : Nat} :
    w &&& fieldMask start len = 0#128 ↔ w.extractLsb' start len = 0#len := by
  constructor
  · intro h
    ext k hk
    rw [BitVec.getElem_extractLsb', BitVec.getElem_zero]
    by_cases hlt : start + k < 128
    · have hbit := congrArg (BitVec.getLsbD · (start + k)) h
      simpa [hlt, getElem_fieldMask, hk] using hbit
    · exact BitVec.getLsbD_of_ge w _ (by omega)
  · intro h
    ext k hk
    rw [BitVec.getElem_and, getElem_fieldMask, BitVec.getElem_zero]
    by_cases hin : start ≤ k ∧ k < start + len
    · have hbit := congrArg (BitVec.getLsbD · (k - start)) h
      simpa [hin, hk, show k - start < len by omega] using hbit
    · simp [hin]

theorem and_or_eq_zero_iff {w m m' : CmdWord} : w &&& (m ||| m') = 0#128 ↔ w &&& m = 0#128 ∧ w &&& m' = 0#128 := by
  rw [BitVec.and_or_distrib_left, BitVec.or_eq_zero_iff]

end Sys2Proof
end

section
/-! The formats of R66 and of the internal words (R73, log entry 4): for each, what its reserved-zero mask asks for, and
what it means that a word has the format with given operands. -/
namespace Sys2Proof

/-! ## The masks, slice by slice (R67; log entry 4) -/

@[simp] theorem and_maskI_eq_zero_iff {w : CmdWord} :
    w &&& 0xFFFFFFFFFFFFFFFFFFFFFFFFFF00FE00#128 = 0#128
      ↔ w.extractLsb' 24 104 = 0#104 ∧ w.extractLsb' 9 7 = 0#7 := by
  rw [show 0xFFFFFFFFFFFFFFFFFFFFFFFFFF00FE00#128 = fieldMask 24 104 ||| fieldMask 9 7 by decide]
  simp only [and_or_eq_zero_iff, and_fieldMask_eq_zero_iff]

@[simp] theorem and_maskX_eq_zero_iff {w : CmdWord} :
    w &&& 0x0000000000000000FFFF00000000FF00#128 = 0#128
      ↔ w.extractLsb' 48 16 = 0#16 ∧ w.extractLsb' 8 8 = 0#8 := by
  rw [show 0x0000000000000000FFFF00000000FF00#128 = fieldMask 48 16 ||| fieldMask 8 8 by decide]
  simp only [and_or_eq_zero_iff, and_fieldMask_eq_zero_iff]

@[simp] theorem and_maskT_eq_zero_iff {w : CmdWord} :
    w &&& 0xFFFFFFFF00000000FFFFFFFF0000FF00#128 = 0#128
      ↔ w.extractLsb' 96 32 = 0#32 ∧ w.extractLsb' 32 32 = 0#32 ∧ w.extractLsb' 8 8 = 0#8 := by
  rw [show 0xFFFFFFFF00000000FFFFFFFF0000FF00#128 = fieldMask 96 32 ||| (fieldMask 32 32 ||| fieldMask 8 8) by decide]
  simp only [and_or_eq_zero_iff, and_fieldMask_eq_zero_iff]

@[simp] theorem and_maskR_eq_zero_iff {w : CmdWord} :
    w &&& 0x00000000FFFFFFFFFFFF0000FFFFFF00#128 = 0#128
      ↔ w.extractLsb' 64 32 = 0#32 ∧ w.extractLsb' 48 16 = 0#16 ∧ w.extractLsb' 16 16 = 0#16
        ∧ w.extractLsb' 8 8 = 0#8 := by
  rw [show 0x00000000FFFFFFFFFFFF0000FFFFFF00#128
    = fieldMask 64 32 ||| (fieldMask 48 16 ||| (fieldMask 16 16 ||| fieldMask 8 8)) by decide]
  simp only [and_or_eq_zero_iff, and_fieldMask_eq_zero_iff]

@[simp] theorem and_maskD_eq_zero_iff {w : CmdWord} :
    w &&& 0xFFFFFFFF00000000FFFFFFFFFFFFFF00#128 = 0#128
      ↔ w.extractLsb' 96 32 = 0#32 ∧ w.extractLsb' 8 56 = 0#56 := by
  rw [show 0xFFFFFFFF00000000FFFFFFFFFFFFFF00#128 = fieldMask 96 32 ||| fieldMask 8 56 by decide]
  simp only [and_or_eq_zero_iff, and_fieldMask_eq_zero_iff]

@[simp] theorem and_maskN_eq_zero_iff {w : CmdWord} :
    w &&& 0xFFFFFFFFFFFFFFFFFFFFFFFFFFFFFF00#128 = 0#128 ↔ w.extractLsb' 8 120 = 0#120 := by
  rw [show 0xFFFFFFFFFFFFFFFFFFFFFFFFFFFFFF00#128 = fieldMask 8 120 by decide, and_fieldMask_eq_zero_iff]

@[simp] theorem and_maskPstep_eq_zero_iff {w : CmdWord} :
    w &&& 0xFFFFFFFF0000000000000000FF00FE00#128 = 0#128
      ↔ w.extractLsb' 96 32 = 0#32 ∧ w.extractLsb' 24 8 = 0#8 ∧ w.extractLsb' 9 7 = 0#7 := by
  rw [show 0xFFFFFFFF0000000000000000FF00FE00#128 = fieldMask 96 32 ||| (fieldMask 24 8 ||| fieldMask 9 7) by decide]
  simp only [and_or_eq_zero_iff, and_fieldMask_eq_zero_iff]

@[simp] theorem and_maskRbWrite_eq_zero_iff {w : CmdWord} :
    w &&& 0xFFFFFFFFFFFFFFFFFFFFFFFFFF00FF00#128 = 0#128
      ↔ w.extractLsb' 24 104 = 0#104 ∧ w.extractLsb' 8 8 = 0#8 := by
  rw [show 0xFFFFFFFFFFFFFFFFFFFFFFFFFF00FF00#128 = fieldMask 24 104 ||| fieldMask 8 8 by decide]
  simp only [and_or_eq_zero_iff, and_fieldMask_eq_zero_iff]

@[simp] theorem and_maskErrh_eq_zero_iff {w : CmdWord} :
    w &&& 0xFFFFFFFFFFFFFFFF00000000FFFFFF00#128 = 0#128
      ↔ w.extractLsb' 64 64 = 0#64 ∧ w.extractLsb' 8 24 = 0#24 := by
  rw [show 0xFFFFFFFFFFFFFFFF00000000FFFFFF00#128 = fieldMask 64 64 ||| fieldMask 8 24 by decide]
  simp only [and_or_eq_zero_iff, and_fieldMask_eq_zero_iff]

/-! ## A word of each format: the type of `w` holds the widths of the fields, the highest first -/

theorem eq_formatI_iff {w : BitVec (104 + 4 + 4 + 7 + 1 + 8)} {sw : Bool} {port pin : BitVec 4} {op : Byte} :
    w = 0#104 ++ pin ++ port ++ 0#7 ++ bitOf sw ++ op
      ↔ opField w = op ∧ bit8Field w = sw ∧ w.extractLsb' 9 7 = 0#7 ∧ csPortField w = port ∧ csPinField w = pin
        ∧ w.extractLsb' 24 104 = 0#104 := by
  rw [eq_append_iff]
  simp only [extractLsb'_eq_append_iff, extractLsb'_eq_bitOf_iff]
  rfl

theorem eq_formatX_iff {w : BitVec (32 + 32 + 16 + 16 + 16 + 8 + 8)} {sl rl : Len} {sa ra : Addr} {op : Byte} :
    w = ra ++ sa ++ 0#16 ++ rl ++ sl ++ 0#8 ++ op
      ↔ opField w = op ∧ w.extractLsb' 8 8 = 0#8 ∧ slenField w = sl ∧ rlenField w = rl ∧ w.extractLsb' 48 16 = 0#16
        ∧ saddrField w = sa ∧ raddrField w = ra := by
  rw [eq_append_iff]
  simp only [extractLsb'_eq_append_iff]
  rfl

theorem eq_formatT_iff {w : BitVec (32 + 32 + 32 + 16 + 8 + 8)} {sl : Len} {sa : Addr} {op : Byte} :
    w = 0#32 ++ sa ++ 0#32 ++ sl ++ 0#8 ++ op
      ↔ opField w = op ∧ w.extractLsb' 8 8 = 0#8 ∧ slenField w = sl ∧ w.extractLsb' 32 32 = 0#32
        ∧ saddrField w = sa ∧ w.extractLsb' 96 32 = 0#32 := by
  rw [eq_append_iff]
  simp only [extractLsb'_eq_append_iff]
  rfl

theorem eq_formatR_iff {w : BitVec (32 + 32 + 16 + 16 + 16 + 8 + 8)} {rl : Len} {ra : Addr} {op : Byte} :
    w = ra ++ 0#32 ++ 0#16 ++ rl ++ 0#16 ++ 0#8 ++ op
      ↔ opField w = op ∧ w.extractLsb' 8 8 = 0#8 ∧ w.extractLsb' 16 16 = 0#16 ∧ rlenField w = rl
        ∧ w.extractLsb' 48 16 = 0#16 ∧ w.extractLsb' 64 32 = 0#32 ∧ raddrField w = ra := by
  rw [eq_append_iff]
  simp only [extractLsb'_eq_append_iff]
  rfl

theorem eq_formatD_iff {w : BitVec (32 + 32 + 56 + 8)} {da : Addr} {op : Byte} :
    w = 0#32 ++ da ++ 0#56 ++ op
      ↔ opField w = op ∧ w.extractLsb' 8 56 = 0#56 ∧ saddrField w = da ∧ w.extractLsb' 96 32 = 0#32 := by
  rw [eq_append_iff]
  simp only [extractLsb'_eq_append_iff]
  rfl

theorem eq_formatN_iff {w : BitVec (120 + 8)} {op : Byte} :
    w = 0#120 ++ op ↔ opField w = op ∧ w.extractLsb' 8 120 = 0#120 := eq_append_iff

theorem eq_encode_pstep_some_iff {w : BitVec (32 + 32 + 32 + 8 + 8 + 7 + 1 + 8)} {set clr : Reg} {b : Byte} :
    w = encode (.pstep set clr (some b))
      ↔ opField w = 0x82#8 ∧ bit8Field w = true ∧ w.extractLsb' 9 7 = 0#7 ∧ byteField w = b
        ∧ w.extractLsb' 24 8 = 0#8 ∧ regField w = set ∧ clrField w = clr ∧ w.extractLsb' 96 32 = 0#32 := by
  rw [encode, show 1#1 = bitOf true from rfl, eq_append_iff]
  simp only [extractLsb'_eq_append_iff, extractLsb'_eq_bitOf_iff]
  rfl

/-- Without a fixed draw, the marker and the byte's field are 0 along with the reserved bits around them. -/
theorem eq_encode_pstep_none_iff {w : BitVec (32 + 32 + 32 + (8 + 8 + 7 + 1) + 8)} {set clr : Reg} :
    w = encode (.pstep set clr none)
      ↔ opField w = 0x82#8
        ∧ (bit8Field w = false ∧ w.extractLsb' 9 7 = 0#7 ∧ byteField w = 0#8 ∧ w.extractLsb' 24 8 = 0#8)
        ∧ regField w = set ∧ clrField w = clr ∧ w.extractLsb' 96 32 = 0#32 := by
  rw [encode, show 0#24 = 0#8 ++ 0#8 ++ 0#7 ++ bitOf false from rfl, eq_append_iff]
  simp only [extractLsb'_eq_append_iff, extractLsb'_eq_bitOf_iff]
  rfl

theorem eq_encode_rbWrite_iff {w : BitVec (104 + 8 + 8 + 8)} {b : Byte} :
    w = encode (.rbWrite b)
      ↔ opField w = 0xC0#8 ∧ w.extractLsb' 8 8 = 0#8 ∧ byteField w = b ∧ w.extractLsb' 24 104 = 0#104 := by
  rw [encode, eq_append_iff]
  simp only [extractLsb'_eq_append_iff]
  rfl

theorem eq_encode_errh_iff {w : BitVec (64 + 32 + 24 + 8)} {sr0 : Reg} :
    w = encode (.errh sr0)
      ↔ opField w = 0xC6#8 ∧ w.extractLsb' 8 24 = 0#24 ∧ regField w = sr0 ∧ w.extractLsb' 64 64 = 0#64 := by
  rw [encode, eq_append_iff]
  simp only [extractLsb'_eq_append_iff]
  rfl

end Sys2Proof
end

section
/-! The decoder and the encoder undo each other (R65 to R73). -/
namespace Sys2Proof

/-! ## Legal words -/

theorem decodePort_of_illegal {w : CmdWord} (h : legalWord w = false) : decodePort w = .reserved w := by
  rw [legalWord] at h
  rw [decodePort]
  cases hm : portMask (opField w) with
  | none => rfl
  | some m =>
    have hset : w &&& m ≠ 0#128 := by simpa [hm] using h
    exact if_pos hset

/-- Everything a legal word can be: a published opcode, with its format's reserved-zero bits 0 (R67, R69). -/
theorem legalWord_cases {w : CmdWord} (h : legalWord w = true) :
    (opField w = 0x01#8 ∧ w &&& 0xFFFFFFFFFFFFFFFFFFFFFFFFFF00FE00#128 = 0#128)
      ∨ (opField w = 0x02#8 ∧ w &&& 0x0000000000000000FFFF00000000FF00#128 = 0#128)
      ∨ (opField w = 0x03#8 ∧ w &&& 0xFFFFFFFF00000000FFFFFFFF0000FF00#128 = 0#128)
      ∨ (opField w = 0x04#8 ∧ w &&& 0x00000000FFFFFFFFFFFF0000FFFFFF00#128 = 0#128)
      ∨ (opField w = 0x05#8 ∧ w &&& 0xFFFFFFFF00000000FFFFFFFFFFFFFF00#128 = 0#128)
      ∨ ((opField w = 0x06#8 ∨ opField w = 0x07#8 ∨ opField w = 0x08#8)
        ∧ w &&& 0xFFFFFFFFFFFFFFFFFFFFFFFFFFFFFF00#128 = 0#128) := by
  rw [legalWord, portMask] at h
  split_ifs at h <;> simp_all

/-- A legal word is the word of a command. -/
theorem exists_encode_of_legalWord {w : CmdWord} (h : legalWord w = true) :
    ∃ i, i.isCommand = true ∧ WellFormed i = true ∧ encode i = w := by
  obtain ⟨hop, hm⟩ | ⟨hop, hm⟩ | ⟨hop, hm⟩ | ⟨hop, hm⟩ | ⟨hop, hm⟩ | ⟨hop, hm⟩ := legalWord_cases h
  · obtain ⟨h24, h9⟩ := and_maskI_eq_zero_iff.mp hm
    exact ⟨.init (bit8Field w) (csPortField w) (csPinField w), rfl, rfl,
      (eq_formatI_iff.mpr ⟨hop, rfl, h9, rfl, rfl, h24⟩).symm⟩
  · obtain ⟨h48, h8⟩ := and_maskX_eq_zero_iff.mp hm
    exact ⟨.xfer (slenField w) (rlenField w) (saddrField w) (raddrField w), rfl, rfl,
      (eq_formatX_iff.mpr ⟨hop, h8, rfl, rfl, h48, rfl, rfl⟩).symm⟩
  · obtain ⟨h96, h32, h8⟩ := and_maskT_eq_zero_iff.mp hm
    exact ⟨.txonly (slenField w) (saddrField w), rfl, rfl, (eq_formatT_iff.mpr ⟨hop, h8, rfl, h32, rfl, h96⟩).symm⟩
  · obtain ⟨h64, h48, h16, h8⟩ := and_maskR_eq_zero_iff.mp hm
    exact ⟨.rxonly (rlenField w) (raddrField w), rfl, rfl, (eq_formatR_iff.mpr ⟨hop, h8, h16, rfl, h48, h64, rfl⟩).symm⟩
  · obtain ⟨h96, h8⟩ := and_maskD_eq_zero_iff.mp hm
    exact ⟨.rbdrain (saddrField w), rfl, rfl, (eq_formatD_iff.mpr ⟨hop, h8, rfl, h96⟩).symm⟩
  · have h8 := and_maskN_eq_zero_iff.mp hm
    obtain hop | hop | hop := hop
    · exact ⟨.status, rfl, rfl, (eq_formatN_iff.mpr ⟨hop, h8⟩).symm⟩
    · exact ⟨.csassert, rfl, rfl, (eq_formatN_iff.mpr ⟨hop, h8⟩).symm⟩
    · exact ⟨.csdeassert, rfl, rfl, (eq_formatN_iff.mpr ⟨hop, h8⟩).symm⟩

/-- A word with a reserved opcode or a reserved-zero bit set is not legal. -/
theorem legalWord_eq_false_of_illegalWord {w : CmdWord} (h : Says.IllegalWord w) : legalWord w = false := by
  by_contra hl
  have hop : w.toNat % 256 = (opField w).toNat := by simp [opField]
  obtain ⟨ho, hm⟩ | ⟨ho, hm⟩ | ⟨ho, hm⟩ | ⟨ho, hm⟩ | ⟨ho, hm⟩ | ⟨ho | ho | ho, hm⟩ :=
    legalWord_cases (Bool.eq_true_of_not_eq_false hl)
  all_goals simp [Says.IllegalWord, hop, ho, hm] at h

/-! ## Decoding an encoded instruction -/

theorem decodePort_encode {i : Instr} (hc : i.isCommand = true) (hw : WellFormed i = true) :
    decodePort (encode i) = i := by
  cases i with
  | init sw port pin =>
    obtain ⟨hop, hsw, h9, hport, hpin, h24⟩ := (eq_formatI_iff (w := encode (.init sw port pin))).mp rfl
    simp [decodePort, portMask, hop, hsw, h9, hport, hpin, h24]
  | xfer sl rl sa ra =>
    obtain ⟨hop, h8, hsl, hrl, h48, hsa, hra⟩ := (eq_formatX_iff (w := encode (.xfer sl rl sa ra))).mp rfl
    simp [decodePort, portMask, hop, h8, hsl, hrl, h48, hsa, hra]
  | txonly sl sa =>
    obtain ⟨hop, h8, hsl, h32, hsa, h96⟩ := (eq_formatT_iff (w := encode (.txonly sl sa))).mp rfl
    simp [decodePort, portMask, hop, h8, hsl, h32, hsa, h96]
  | rxonly rl ra =>
    obtain ⟨hop, h8, h16, hrl, h48, h64, hra⟩ := (eq_formatR_iff (w := encode (.rxonly rl ra))).mp rfl
    simp [decodePort, portMask, hop, h8, h16, hrl, h48, h64, hra]
  | rbdrain da =>
    obtain ⟨hop, h8, hda, h96⟩ := (eq_formatD_iff (w := encode (.rbdrain da))).mp rfl
    simp [decodePort, portMask, hop, h8, hda, h96]
  | status | csassert | csdeassert => rfl
  | reserved w => exact decodePort_of_illegal (w := w) (by simpa [WellFormed] using hw)
  | irq | tick | pstep | poll | rbWrite | csInit | csAssertP | csDeassertP | finalize | cleanup | errh => cases hc

theorem decodeEvent_encode {i : Instr} (hc : i.isCommand = false) : decodeEvent (encode i) = .ok i := by
  cases i with
  | irq | tick | poll | csAssertP | csDeassertP | finalize | cleanup => rfl
  | pstep set clr rx =>
    cases rx with
    | none =>
      obtain ⟨hop, ⟨h8, h9, hb, h24⟩, hset, hclr, h96⟩ :=
        (eq_encode_pstep_none_iff (w := encode (.pstep set clr none))).mp rfl
      simp [decodeEvent, eventMask, hop, h8, h9, hb, h24, hset, hclr, h96]
    | some b =>
      obtain ⟨hop, h8, h9, hb, h24, hset, hclr, h96⟩ :=
        (eq_encode_pstep_some_iff (w := encode (.pstep set clr (some b)))).mp rfl
      simp [decodeEvent, eventMask, hop, h8, h9, hb, h24, hset, hclr, h96]
  | rbWrite b =>
    obtain ⟨hop, h8, hb, h24⟩ := (eq_encode_rbWrite_iff (w := encode (.rbWrite b))).mp rfl
    simp [decodeEvent, eventMask, hop, h8, hb, h24]
  | csInit sw port pin =>
    obtain ⟨hop, hsw, h9, hport, hpin, h24⟩ := (eq_formatI_iff (w := encode (.csInit sw port pin))).mp rfl
    simp [decodeEvent, eventMask, hop, hsw, h9, hport, hpin, h24]
  | errh sr0 =>
    obtain ⟨hop, h8, hsr, h64⟩ := (eq_encode_errh_iff (w := encode (.errh sr0))).mp rfl
    simp [decodeEvent, eventMask, hop, h8, hsr, h64]
  | init | xfer | txonly | rxonly | rbdrain | status | csassert | csdeassert | reserved => cases hc

/-! ## A row of the opcode table (R50, R77) -/

theorem length_bytesOf (n w : Nat) : (bytesOf n w).length = n := by
  induction n generalizing w with
  | zero => rfl
  | succ n ih => rw [bytesOf, List.length_cons, ih]

theorem numberOf_bytesOf (n w : Nat) : numberOf (bytesOf n w) = w % 256 ^ n := by
  induction n generalizing w with
  | zero =>
    rw [pow_zero, Nat.mod_one]
    rfl
  | succ n ih =>
    rw [bytesOf, numberOf, ih, Nat.pow_succ', Nat.mod_mul]
    rfl

theorem decodeBytes_bytesOf (c : Channel) (w : CmdWord) :
    decodeBytes c (bytesOf 16 w.toNat) = (decodeWord c w).map (·, []) := by
  have hlen := length_bytesOf 16 w.toNat
  have hlt : w.toNat < 256 ^ 16 := w.isLt
  have hword : BitVec.ofNat 128 (numberOf (bytesOf 16 w.toNat)) = w := by
    rw [numberOf_bytesOf, Nat.mod_eq_of_lt hlt, BitVec.ofNat_toNat, BitVec.setWidth_eq]
  rw [decodeBytes, if_neg (by omega), List.take_of_length_le hlen.le, List.drop_of_length_le hlen.le, hword]
  cases decodeWord c w <;> rfl

theorem decodeTableWord_of_command {w : Nat} (i : Instr) (hc : i.isCommand = true) (hw : WellFormed i = true)
    (he : tableWord 128 w = encode i) : decodeTableWord 128 w = some i := by
  have hch : tableChannel 128 w = .port := rfl
  rw [decodeTableWord, hch, he, decodeBytes_bytesOf, decodeWord, decodePort_encode hc hw]
  rfl

end Sys2Proof
end

section
/-! The statements about the words of the port and their answers (R65 to R77, R116, R130, R147). -/
namespace Sys2Proof.Machine

open Sys2Proof.Says

/-! ## Steps that are not enabled (R116, R130) -/

theorem execPoll_idle {s : State} (h : PortOpen s) : execPoll s = .fault .pollWhileIdle := by
  rw [execPoll, if_neg (by simp [h.1]), if_neg (by simp [h.2])]

theorem execIrq_lineLow {s : State} (hs : s.irqStuck = false) (hl : irqLine s = false) :
    execIrq s = .fault .irqNotEnabled := by
  rw [execIrq, if_neg (by simp [hs]), if_neg (by simp [hl])]

/-! ## The status word (R74) -/

theorem eq_statusWord_iff {r : BitVec (32 + 32 + 16 + 16 + 16 + (1 + 1 + 2 + 1 + 3 + 1 + 1 + 1 + 1 + 3 + 1))} {s : State} :
    r = statusWord s ↔
      (r.getLsbD 0 = true
        ∧ r.extractLsb' 1 3 = stateCode s.ctx.state
        ∧ r.getLsbD 4 = s.ctx.txDone
        ∧ r.getLsbD 5 = s.ctx.rxDone
        ∧ r.getLsbD 6 = s.ctx.xferErr
        ∧ r.getLsbD 7 = s.ring.bovr
        ∧ r.extractLsb' 8 3 = errCode s.ctx.lastErr
        ∧ r.getLsbD 11 = s.ctx.inited
        ∧ r.extractLsb' 12 2 = csCode s.cs.out
        ∧ r.getLsbD 14 = s.cs.sw
        ∧ r.getLsbD 15 = false)
      ∧ r.extractLsb' 16 16 = s.ctx.txRemaining
      ∧ r.extractLsb' 32 16 = s.ctx.rxRemaining
      ∧ r.extractLsb' 48 16 = rbCount s.par s.ring
      ∧ r.extractLsb' 64 32 = s.ctx.errorCount
      ∧ r.extractLsb' 96 32 = s.ctx.timeoutCount := by
  rw [statusWord, statusLow, show 1#1 = bitOf true from rfl, show 0#1 = bitOf false from rfl, eq_append_iff]
  simp only [extractLsb'_eq_append_iff, extractLsb'_eq_bitOf_iff]

/-! ## The statements -/

/-- Settles O2, by the two channels: each instruction's word has exactly its operands' fields, and the decoder reads these. -/
theorem decodeOfEncodeIsTheInstruction : Obligations.DecodeOfEncodeIsTheInstruction := by
  intro i hw
  rw [channelOf]
  split
  case isTrue hc => exact congrArg Except.ok (decodePort_encode hc hw)
  case isFalse hc => exact decodeEvent_encode (Bool.eq_false_iff.mpr hc)

/-- Settles O3: a legal word is the word of a command, which decoding gives back (O2); any other is its own refused word. -/
theorem everyPortWordHasOneMeaning : Obligations.EveryPortWordHasOneMeaning := by
  intro w
  cases hl : legalWord w with
  | true =>
    obtain ⟨i, hc, hw, rfl⟩ := exists_encode_of_legalWord hl
    rw [decodePort_encode hc hw]
    exact ⟨rfl, hc, hw⟩
  | false =>
    rw [decodePort_of_illegal hl]
    exact ⟨rfl, rfl, by rw [WellFormed, hl]; rfl⟩

/-- Settles O4: an illegal word fails step 1 or 2 of the decode order, and the open port answers it as R147 says. -/
theorem illegalWordsAreInvalidRequests : Obligations.IllegalWordsAreInvalidRequests := by
  intro w s ho hw
  refine ⟨congrArg Except.ok (decodePort_of_illegal (legalWord_eq_false_of_illegalWord hw)), ?_⟩
  rw [Rejected, exec_reserved, execReserved, onPort_open ho, invalidRequest_eq]

/-- Settles O22, with the model's own status word. -/
theorem statusReportsTheContext : Obligations.StatusReportsTheContext := by
  intro s ho
  have hcount : BitVec.ofNat 16 (unreadCount s) = rbCount s.par s.ring := by
    rw [unreadCount, BitVec.ofNat_toNat, BitVec.setWidth_eq]
    rfl
  have hexec : exec .status s = .next (respondWord (statusWord s) true s) := by
    rw [exec_status, execStatus, onPort_open ho]
  have hfields := (eq_statusWord_iff (s := s)).mp rfl
  simp only [and_assoc] at hfields
  rw [hcount]
  exact ⟨statusWord s, hexec, hfields⟩

/-- Settles O1: each word of R77 is the encoding of its command, so O2 says what it decodes to. -/
theorem publishedWordsDecode : Obligations.PublishedWordsDecode := by
  refine ⟨?_, ?_, ?_, ?_, ?_, ?_, ?_, ?_, ?_⟩
  all_goals exact decodeTableWord_of_command _ rfl rfl (by decide)

/-- Settles O8, by the gates of the port, of `POLL` and of `IRQ`. -/
theorem disabledStepsAreNotTaken : Obligations.DisabledStepsAreNotTaken := by
  refine ⟨fun s i hc hs hp => ?_, fun s hs hp => execPoll_idle ⟨hs, hp⟩, fun s hs hz => execIrq_lineLow hs ?_⟩
  · obtain ⟨f, hf⟩ := exec_of_isCommand hc
    rw [hf, onPort_waiting hs hp]
  · rw [irqLine, causeOf, hz]
    rfl

end Sys2Proof.Machine
end

section
/-! Runs of stores in caller memory: when they end, the history they leave, and every byte after them (R50, R52, R88). -/
namespace Sys2Proof.Machine

open Sys2Proof.Says

theorem plus_zero (a : Addr) : plus a 0 = a := BitVec.add_zero a

/-- Addresses less than `2^32` apart are distinct. -/
theorem plus_inj {a : Addr} {j k : Nat} (hj : j < 4294967296) (hk : k < 4294967296) (h : plus a j = plus a k) : j = k := by
  have hoff : BitVec.ofNat 32 j = BitVec.ofNat 32 k := add_left_cancel h
  simpa [Nat.mod_eq_of_lt hj, Nat.mod_eq_of_lt hk] using congrArg BitVec.toNat hoff

theorem memWrite_of_memAdmits {a : Addr} {s : State} (v : Byte) (h : memAdmits s.par a = true) :
    memWrite a v s = some (emit (.memWr a v) (setByte s a v)) := by
  rw [memWrite, if_pos h]

theorem byteAt_emit_setByte (s : State) (e : Event) (a b : Addr) (v : Byte) (h : Memory.wf s.mem) :
    byteAt (emit e (setByte s a v)) b = if b = a then v else byteAt s b := byteAt_setByte s a b v h

/-- A run of stores that ends began with a store that succeeded. -/
theorem memWriteAll_cons_some {a : Addr} {v : Byte} {vs : List Byte} {s t : State}
    (h : memWriteAll a (v :: vs) s = some t) :
    memWriteAll (a + 1#32) vs (emit (.memWr a v) (setByte s a v)) = some t := by
  have ha : memAdmits s.par a = true := by simpa [plus_zero] using memAdmits_of_memWriteAll h 0 (by simp)
  rwa [memWriteAll, memWrite_of_memAdmits v ha] at h

/-- A run of stores ends where there is memory at each of its addresses. -/
theorem exists_memWriteAll_of_memAdmits {a : Addr} {vs : List Byte} {s : State}
    (h : ∀ k < vs.length, memAdmits s.par (plus a k) = true) : ∃ t, memWriteAll a vs s = some t := by
  induction vs generalizing a s with
  | nil => exact ⟨s, rfl⟩
  | cons v vs ih =>
    have ha : memAdmits s.par a = true := by simpa [plus_zero] using h 0 (by simp)
    rw [memWriteAll, memWrite_of_memAdmits v ha]
    refine ih fun k hk => ?_
    rw [← plus_add_one]
    exact h (k + 1) (Nat.succ_lt_succ hk)

/-- A run of stores leaves one `MemWr` event per byte, in order, and changes nothing but memory beside the history. -/
theorem memWriteAll_events {a : Addr} {vs : List Byte} {s t : State} (h : memWriteAll a vs s = some t) :
    t = { s with mem := t.mem, history := s.history ++ vs.mapIdx fun k v => .memWr (plus a k) v } := by
  induction vs generalizing a s with
  | nil =>
    obtain rfl : s = t := Option.some.inj h
    simp
  | cons v vs ih =>
    have ht := ih (memWriteAll_cons_some h)
    simpa [plus_zero, plus_add_one] using ht

theorem byteAt_memWriteAll_of_ne {a b : Addr} {vs : List Byte} {s t : State} (hwf : Memory.wf s.mem)
    (h : memWriteAll a vs s = some t) (hb : ∀ k < vs.length, b ≠ plus a k) : byteAt t b = byteAt s b := by
  induction vs generalizing a s with
  | nil =>
    obtain rfl : s = t := Option.some.inj h
    rfl
  | cons v vs ih =>
    have hne : b ≠ a := by simpa [plus_zero] using hb 0 (by simp)
    have hrest : ∀ k < vs.length, b ≠ plus (a + 1#32) k := fun k hk => by
      rw [← plus_add_one]
      exact hb (k + 1) (Nat.succ_lt_succ hk)
    have hwf' : Memory.wf (emit (.memWr a v) (setByte s a v)).mem := setByte_wf s a v hwf
    rw [ih hwf' (memWriteAll_cons_some h) hrest, byteAt_emit_setByte _ _ _ _ _ hwf, if_neg hne]

/-- Each byte of a run of stores stands at its own address afterwards: no later store of the run reaches it again. -/
theorem byteAt_memWriteAll {a : Addr} {vs : List Byte} {s t : State} (hwf : Memory.wf s.mem)
    (h : memWriteAll a vs s = some t) (hlen : vs.length ≤ 4294967296) (k : Nat) (hk : k < vs.length) :
    byteAt t (plus a k) = vs[k] := by
  induction vs generalizing a s k with
  | nil => exact absurd hk (Nat.not_lt_zero k)
  | cons v vs ih =>
    rw [List.length_cons] at hlen hk
    have hwf' : Memory.wf (emit (.memWr a v) (setByte s a v)).mem := setByte_wf s a v hwf
    have hrest := memWriteAll_cons_some h
    cases k with
    | zero =>
      have hlast : ∀ j < vs.length, plus a 0 ≠ plus (a + 1#32) j := fun j hj heq => by
        rw [← plus_add_one] at heq
        exact absurd (plus_inj (by omega) (by omega) heq) (by omega)
      rw [byteAt_memWriteAll_of_ne hwf' hrest hlast, byteAt_emit_setByte _ _ _ _ _ hwf, plus_zero,
        if_pos rfl]
      rfl
    | succ k =>
      rw [plus_add_one]
      exact ih hwf' hrest (by omega) k (by omega)

end Sys2Proof.Machine
end

section
/-! `RBDRAIN` (R88, R90, R91). -/
namespace Sys2Proof.Machine

open Sys2Proof.Says

theorem toNat_append_eq_mul_add {m n : Nat} (x : BitVec m) (y : BitVec n) :
    (x ++ y).toNat = x.toNat * 2 ^ n + y.toNat := by
  rw [BitVec.toNat_append, ← Nat.shiftLeft_add_eq_or_of_lt y.isLt, Nat.shiftLeft_eq]

theorem toNat_bitOf (b : Bool) : (bitOf b).toNat = if b = true then 1 else 0 := by
  cases b <;> rfl

/-- The fields of the response word at their places (R72). -/
theorem responseWord_eq (r : Bool) (c : ErrKind) (n : RbIdx) :
    responseWord r c n = response r (errCode c).toNat n.toNat := by
  have hc := (errCode c).isLt
  have hn := n.isLt
  apply BitVec.eq_of_toNat_eq
  rw [responseWord, response]
  simp only [toNat_append_eq_mul_add, toNat_bitOf, BitVec.toNat_ofNat]
  split <;> omega

theorem rbUnread_eq (s : State) : rbUnread s.par s.ring = (List.range (unreadCount s)).map (unreadByte s) := rfl

/-- A drain to admitted memory is a run of stores, the ring emptied, and the count answered. -/
theorem drainCommand_of_memWriteAll {s t : State} {d : Addr} (htop : d.toNat + unreadCount s ≤ 4294967296)
    (h : memWriteAll d (rbUnread s.par s.ring) s = some t) :
    drainCommand d s = answered true 0 (unreadCount s) (rbEmpty t) := by
  have hfits : passesTop d (rbCount s.par s.ring) = false := passesTop_eq_false_iff.mpr htop
  rw [drainCommand, if_neg (by simp [hfits]), rbDrain, h]
  show respond true .none (rbCount s.par s.ring) (rbEmpty t) = _
  rw [respond, responseWord_eq]
  rfl

/-- Settles O40, by the run of stores a drain is. -/
theorem drainCopiesTheUnreadBytes : Obligations.DrainCopiesTheUnreadBytes := by
  intro s d hwf ho hi htop hadm
  have hlen : (rbUnread s.par s.ring).length = unreadCount s := length_rbUnread s
  obtain ⟨u, hu⟩ := exists_memWriteAll_of_memAdmits (hlen ▸ hadm)
  have hevents : (rbUnread s.par s.ring).mapIdx (fun k v => Event.memWr (plus d k) v)
      = (List.range (unreadCount s)).map fun k => .memWr (plus d k) (unreadByte s k) := by
    rw [rbUnread_eq]
    apply List.ext_getElem <;> simp
  have hbytes : ∀ a, byteAt (answered true 0 (unreadCount s) (rbEmpty u)) a = byteAt u a := fun _ => rfl
  refine ⟨answered true 0 (unreadCount s) (rbEmpty u), ?_, ?_, fun k hk => ?_, fun a ha => ?_⟩
  · rw [exec_rbdrain, execRbdrain, onPort_open ho, ifInited, if_pos hi, drainCommand_of_memWriteAll htop hu]
  · rw [← hevents, memWriteAll_events hu]
    rfl
  · rw [hbytes, byteAt_memWriteAll hwf hu (by omega) k (hlen ▸ hk)]
    simp [rbUnread_eq]
  · rw [hbytes]
    exact byteAt_memWriteAll_of_ne hwf hu (hlen ▸ ha)

/-- Settles O41: the range check turns the drain away, and so does the gate before `INIT`. -/
theorem drainPastTopIsRejected : Obligations.DrainPastTopIsRejected := by
  intro s d ho htop
  have hpast : passesTop d (rbCount s.par s.ring) = true := decide_eq_true htop
  rw [Rejected, exec_rbdrain, execRbdrain]
  cases hi : s.ctx.inited with
  | false => exact onPort_ifInited_of_uninitialised _ ho hi
  | true => rw [onPort_open ho, ifInited, if_pos hi, drainCommand, if_pos hpast, invalidRequest_eq]

end Sys2Proof.Machine
end

section
/-! The ring buffer's indices, and what a write does to the unread bytes (R36, R85 to R88). -/
namespace Sys2Proof.Machine

open Sys2Proof.Says

/-! ## One write (R86, R87) -/

theorem exec_rbWrite_eq (b : Byte) (s : State) : exec (.rbWrite b) s = .next { s with ring := ringWritten b s } := by
  rw [exec_rbWrite, execRbWrite, rbWriteOp, rbWriteRing_eq]

theorem ringWritten_of_room {s : State} (b : Byte) (h : (s.ring.head + 1#16) &&& mask s.par ≠ s.ring.tail) :
    ringWritten b s =
      { s.ring with slots := s.ring.slots.set s.ring.head.toNat b, head := (s.ring.head + 1#16) &&& mask s.par } :=
  if_neg h

theorem ringWritten_of_full {s : State} (b : Byte) (h : (s.ring.head + 1#16) &&& mask s.par = s.ring.tail) :
    ringWritten b s =
      { slots := s.ring.slots.set s.ring.head.toNat b
        head := (s.ring.head + 1#16) &&& mask s.par
        tail := if s.par.ovrPolicy = .dropOldest then (s.ring.tail + 1#16) &&& mask s.par else s.ring.tail
        bovr := true } :=
  if_pos h

theorem ringWritten_slots (b : Byte) (s : State) : (ringWritten b s).slots = s.ring.slots.set s.ring.head.toNat b := by
  rw [ringWritten]
  split <;> rfl

/-- Settles O38. -/
theorem rbWriteStoresTheByte : Obligations.RbWriteStoresTheByte := by
  intro s b h
  rw [exec_rbWrite_eq, ringWritten_of_room b h]

/-- Settles O39. -/
theorem rbWriteOverruns : Obligations.RbWriteOverruns := by
  intro s b h
  rw [exec_rbWrite_eq, ringWritten_of_full b h]

/-! ## Indices as numbers modulo the number of slots -/

section
variable {par : Params} (hk : par.rbK ≤ 16)
include hk

theorem rbSize_dvd : rbSize par ∣ 65536 := Nat.pow_dvd_pow 2 hk

theorem toNat_and_rbMask (i : RbIdx) : (i &&& rbMask par).toNat = i.toNat % rbSize par := by
  have hle : rbSize par ≤ 65536 := Nat.le_of_dvd (by decide) (rbSize_dvd hk)
  have hmask : (rbMask par).toNat = 2 ^ par.rbK - 1 := by
    rw [rbMask, BitVec.toNat_ofNat, Nat.mod_eq_of_lt (by omega), rbSize]
  rw [BitVec.toNat_and, hmask, Nat.and_two_pow_sub_one_eq_mod, rbSize]

theorem toNat_rbNext (i : RbIdx) : (rbNext par i).toNat = (i.toNat + 1) % rbSize par := by
  rw [rbNext, toNat_and_rbMask hk, BitVec.toNat_add]
  exact Nat.mod_mod_of_dvd _ (rbSize_dvd hk)

theorem toNat_rbSlot (r : Ring) (n : Nat) : (rbSlot par r n).toNat = (r.tail.toNat + n) % rbSize par := by
  rw [rbSlot, toNat_and_rbMask hk, BitVec.toNat_add, BitVec.toNat_ofNat, Nat.add_mod_mod]
  exact Nat.mod_mod_of_dvd _ (rbSize_dvd hk)

theorem rbNext_rbSlot (r : Ring) (n : Nat) : rbNext par (rbSlot par r n) = rbSlot par r (n + 1) := by
  apply BitVec.eq_of_toNat_eq
  rw [toNat_rbNext hk, toNat_rbSlot hk, toNat_rbSlot hk, Nat.mod_add_mod, Nat.add_assoc]

/-- The slots of fewer than `S` consecutive bytes are distinct. -/
theorem rbSlot_inj {r : Ring} {j n : Nat} (hj : j < rbSize par) (hn : n < rbSize par)
    (h : rbSlot par r j = rbSlot par r n) : j = n := by
  have hmod := congrArg BitVec.toNat h
  rw [toNat_rbSlot hk, toNat_rbSlot hk] at hmod
  exact Nat.ModEq.eq_of_lt_of_lt (Nat.ModEq.add_left_cancel' _ hmod) hj hn

/-- Counting from the advanced tail is counting from one slot on. -/
theorem rbSlot_of_tail_next {r r' : Ring} (h : r'.tail = rbNext par r.tail) (n : Nat) :
    rbSlot par r' n = rbSlot par r (n + 1) := by
  apply BitVec.eq_of_toNat_eq
  rw [toNat_rbSlot hk, toNat_rbSlot hk, h, toNat_rbNext hk, Nat.mod_add_mod, Nat.add_right_comm, Nat.add_assoc]

end

/-! ## The unread bytes -/

theorem unreadCount_eq_length (s : State) (r : Ring) :
    unreadCount { s with ring := r } = (rbUnread s.par r).length := (length_rbUnread { s with ring := r }).symm

theorem rbUnread_eq_nil {s : State} (h : unreadCount s = 0) : rbUnread s.par s.ring = [] := by
  rw [rbUnread_eq, h]
  rfl

theorem rbSlot_zero {s : State} (h : RingShaped s) : rbSlot s.par s.ring 0 = s.ring.tail := by
  obtain ⟨-, -, htail⟩ := h
  exact (congrArg (· &&& rbMask s.par) (BitVec.add_zero s.ring.tail)).trans htail

section
variable {s : State} (hk : s.par.rbK ≤ 16)
include hk

theorem unreadCount_lt_rbSize : unreadCount s < rbSize s.par := by
  have hcount : unreadCount s = (s.ring.head - s.ring.tail).toNat % rbSize s.par := toNat_and_rbMask hk _
  exact hcount ▸ Nat.mod_lt _ (Nat.two_pow_pos _)

/-- The head is the slot after the last unread byte. -/
theorem rbSlot_unreadCount (h : RingShaped s) : rbSlot s.par s.ring (unreadCount s) = s.ring.head := by
  obtain ⟨-, hhead, -⟩ := h
  have hcount : unreadCount s = (s.ring.head - s.ring.tail).toNat % rbSize s.par := toNat_and_rbMask hk _
  rw [← hhead]
  apply BitVec.eq_of_toNat_eq
  rw [toNat_rbSlot hk, toNat_and_rbMask hk, hcount, Nat.add_mod_mod, ← Nat.mod_mod_of_dvd _ (rbSize_dvd hk)]
  have hsum : s.ring.tail + (s.ring.head - s.ring.tail) = s.ring.head := add_sub_cancel _ _
  exact congrArg (fun i : RbIdx => i.toNat % rbSize s.par) hsum

/-- The count is the one number below `S` whose slot is the head. -/
theorem unreadCount_eq_of_rbSlot (h : RingShaped s) {n : Nat} (hn : n < rbSize s.par)
    (hslot : rbSlot s.par s.ring n = s.ring.head) : unreadCount s = n :=
  rbSlot_inj hk (unreadCount_lt_rbSize hk) hn ((rbSlot_unreadCount hk h).trans hslot.symm)

theorem unreadCount_eq_zero_of_empty (h : RingShaped s) (he : s.ring.head = s.ring.tail) : unreadCount s = 0 :=
  unreadCount_eq_of_rbSlot hk h (Nat.two_pow_pos _) ((rbSlot_zero h).trans he.symm)

/-- A write reaches the tail exactly when `S - 1` bytes are unread. -/
theorem next_head_eq_tail_iff (h : RingShaped s) :
    (s.ring.head + 1#16) &&& mask s.par = s.ring.tail ↔ unreadCount s + 1 = rbSize s.par := by
  have hnext : (s.ring.head + 1#16) &&& mask s.par = rbSlot s.par s.ring (unreadCount s + 1) := by
    rw [← rbNext_rbSlot hk, rbSlot_unreadCount hk h]
    rfl
  have hlt := unreadCount_lt_rbSize hk
  rw [hnext, ← rbSlot_zero h]
  refine ⟨fun heq => ?_, fun heq => ?_⟩
  · by_contra hne
    exact absurd (rbSlot_inj hk (by omega) (by omega) heq) (Nat.succ_ne_zero _)
  · apply BitVec.eq_of_toNat_eq
    rw [heq, toNat_rbSlot hk, toNat_rbSlot hk, Nat.add_mod_right, Nat.add_zero]

/-- A write puts the byte behind the unread ones and leaves these where they stand. -/
theorem rbRead_ringWritten (h : RingShaped s) (b : Byte) {n : Nat} (hn : n ≤ unreadCount s) :
    rbRead (ringWritten b s) (rbSlot s.par s.ring n) = if n = unreadCount s then b else unreadByte s n := by
  have ⟨hslots, _, _⟩ := h
  have hlt := unreadCount_lt_rbSize hk
  have hslot : (rbSlot s.par s.ring n).toNat < s.ring.slots.length := by
    rw [hslots, toNat_rbSlot hk]
    exact Nat.mod_lt _ (Nat.two_pow_pos _)
  rw [rbRead, ringWritten_slots, List.getD_eq_getElem?_getD, List.getElem?_set]
  by_cases heq : n = unreadCount s
  · subst heq
    rw [rbSlot_unreadCount hk h] at hslot ⊢
    simp [hslot]
  · have hne : s.ring.head.toNat ≠ (rbSlot s.par s.ring n).toNat := fun hhead => by
      have hsame := (BitVec.eq_of_toNat_eq hhead).symm.trans (rbSlot_unreadCount hk h).symm
      exact heq (rbSlot_inj hk (by omega) hlt hsame)
    rw [if_neg hne, if_neg heq, ← List.getD_eq_getElem?_getD]
    rfl

theorem map_rbRead_ringWritten (h : RingShaped s) (b : Byte) :
    (List.range (unreadCount s + 1)).map (fun n => rbRead (ringWritten b s) (rbSlot s.par s.ring n))
      = rbUnread s.par s.ring ++ [b] := by
  have hold : ∀ n ∈ List.range (unreadCount s),
      rbRead (ringWritten b s) (rbSlot s.par s.ring n) = unreadByte s n := fun n hn => by
    have hlt := List.mem_range.mp hn
    rw [rbRead_ringWritten hk h b hlt.le, if_neg hlt.ne]
  rw [List.range_succ, List.map_append, List.map_congr_left hold, ← rbUnread_eq, List.map_singleton,
    rbRead_ringWritten hk h b le_rfl, if_pos rfl]

end

/-! ## Writes and the unread bytes -/

section
variable {s : State} (hpar : s.par.wf) (h : RingShaped s)
include hpar h

/-- The invariant asks nothing of the ring but its shape, so what holds of a write after reset holds of every shaped ring. -/
theorem ringShaped_ringWritten (b : Byte) : RingShaped { s with ring := ringWritten b s } := by
  have hinv : StateInv { State.resetWith s.par with ring := s.ring } :=
    { resetMeetsTheInvariant s.par hpar with ring := h }
  exact hinv.ringWritten_shaped b

/-- With room left, the byte is appended to the unread ones and no overrun is flagged (R86). -/
theorem rbUnread_ringWritten_of_room (b : Byte) (hroom : unreadCount s + 1 < rbSize s.par) :
    rbUnread s.par (ringWritten b s) = rbUnread s.par s.ring ++ [b] ∧ (ringWritten b s).bovr = s.ring.bovr := by
  have hshape := ringShaped_ringWritten hpar h b
  obtain ⟨-, hk, -, -⟩ := hpar
  have hw := ringWritten_of_room b (mt (next_head_eq_tail_iff hk h).mp hroom.ne)
  have hslot : ∀ n, rbSlot s.par (ringWritten b s) n = rbSlot s.par s.ring n := fun n => by rw [hw]; rfl
  have hhead : (ringWritten b s).head = rbNext s.par s.ring.head := by rw [hw]; rfl
  have hcount : unreadCount { s with ring := ringWritten b s } = unreadCount s + 1 := by
    refine unreadCount_eq_of_rbSlot (s := { s with ring := ringWritten b s }) hk hshape hroom ?_
    show rbSlot s.par (ringWritten b s) _ = (ringWritten b s).head
    rw [hslot, hhead, ← rbNext_rbSlot hk, rbSlot_unreadCount hk h]
  refine ⟨?_, by rw [hw]⟩
  rw [← map_rbRead_ringWritten hk h b, ← hcount]
  simp only [← hslot]
  rfl

/-- With no room left the overrun is flagged, and the oldest byte is dropped or everything is lost, by the policy (R87). -/
theorem rbUnread_ringWritten_of_full (b : Byte) (hfull : unreadCount s + 1 = rbSize s.par) :
    rbUnread s.par (ringWritten b s)
        = (if s.par.ovrPolicy = .dropOldest then (rbUnread s.par s.ring ++ [b]).drop 1 else [])
      ∧ (ringWritten b s).bovr = true := by
  have hshape := ringShaped_ringWritten hpar h b
  obtain ⟨-, hk, -, -⟩ := hpar
  have hreach := (next_head_eq_tail_iff hk h).mpr hfull
  have hw := ringWritten_of_full b hreach
  have hhead : (ringWritten b s).head = s.ring.tail := by rw [hw, ← hreach]
  refine ⟨?_, by rw [hw]⟩
  by_cases hp : s.par.ovrPolicy = .dropOldest
  · have htail : (ringWritten b s).tail = rbNext s.par s.ring.tail := by rw [hw, if_pos hp]; rfl
    have hslot := rbSlot_of_tail_next hk htail
    have hcount : unreadCount { s with ring := ringWritten b s } = unreadCount s := by
      refine unreadCount_eq_of_rbSlot (s := { s with ring := ringWritten b s }) hk hshape (unreadCount_lt_rbSize hk) ?_
      show rbSlot s.par (ringWritten b s) _ = (ringWritten b s).head
      rw [hslot, hhead, ← rbNext_rbSlot hk, rbSlot_unreadCount hk h]
      exact hreach
    rw [if_pos hp, ← map_rbRead_ringWritten hk h b, List.range_succ_eq_map, List.map_cons, List.map_map, List.drop_one,
      List.tail_cons, ← hcount]
    exact List.map_congr_left fun n _ => congrArg (rbRead _) (hslot n)
  · have htail : (ringWritten b s).tail = s.ring.tail := by rw [hw, if_neg hp]
    have hcount : unreadCount { s with ring := ringWritten b s } = 0 :=
      unreadCount_eq_zero_of_empty (s := { s with ring := ringWritten b s }) hk hshape (hhead.trans htail.symm)
    rw [if_neg hp]
    exact rbUnread_eq_nil hcount

end

/-! ## Writes one after the other -/

theorem execAll_append {is js : List Instr} {s t : State} (h : execAll is s = .next t) :
    execAll (is ++ js) s = execAll js t := by
  induction is generalizing s with
  | nil =>
    cases h
    rfl
  | cons i is ih =>
    rw [execAll] at h
    rw [List.cons_append, execAll]
    cases hi : exec i s with
    | next u =>
      rw [hi] at h
      exact ih h
    | fault r | refused r => rw [hi] at h; cases h

theorem execAll_rbWrite_cons (b : Byte) (is : List Instr) (s : State) :
    execAll (.rbWrite b :: is) s = execAll is { s with ring := ringWritten b s } := by
  rw [execAll, exec_rbWrite_eq]

/-- Writes that leave one slot free append their bytes to the unread ones and flag no overrun. -/
theorem execAll_rbWrite_of_room {s : State} (hpar : s.par.wf) (h : RingShaped s) (bytes : List Byte)
    (hroom : unreadCount s + bytes.length < rbSize s.par) :
    ∃ r, execAll (bytes.map .rbWrite) s = .next { s with ring := r } ∧ RingShaped { s with ring := r }
      ∧ rbUnread s.par r = rbUnread s.par s.ring ++ bytes ∧ r.bovr = s.ring.bovr := by
  induction bytes generalizing s with
  | nil => exact ⟨s.ring, rfl, h, (List.append_nil _).symm, rfl⟩
  | cons b bytes ih =>
    rw [List.length_cons] at hroom
    obtain ⟨hunread, hbovr⟩ := rbUnread_ringWritten_of_room hpar h b (by omega)
    have hcount : unreadCount { s with ring := ringWritten b s } = unreadCount s + 1 := by
      rw [unreadCount_eq_length, hunread, List.length_append, length_rbUnread]
      rfl
    have hrest : unreadCount { s with ring := ringWritten b s } + bytes.length < rbSize s.par := by omega
    obtain ⟨r, hr, hshape, hbytes, hflag⟩ := ih (s := { s with ring := ringWritten b s }) hpar
      (ringShaped_ringWritten hpar h b) hrest
    refine ⟨r, ?_, hshape, ?_, hflag.trans hbovr⟩
    · rw [List.map_cons, execAll_rbWrite_cons, hr]
    · rw [hbytes, hunread, List.append_assoc]
      rfl

/-- Writes to an empty ring that leave one slot free: the unread bytes are the bytes written. -/
theorem execAll_rbWrite_of_empty {s : State} (hpar : s.par.wf) (h : RingShaped s) (he : s.ring.head = s.ring.tail)
    {bytes : List Byte} (hlen : bytes.length < rbSize s.par) :
    ∃ r, execAll (bytes.map .rbWrite) s = .next { s with ring := r } ∧ RingShaped { s with ring := r }
      ∧ rbUnread s.par r = bytes ∧ r.bovr = s.ring.bovr := by
  have ⟨_, hk, _, _⟩ := hpar
  have hzero : unreadCount s = 0 := unreadCount_eq_zero_of_empty hk h he
  have hrun := execAll_rbWrite_of_room hpar h bytes (by omega)
  rwa [rbUnread_eq_nil hzero] at hrun

/-- Settles O43: the writes append to nothing, and the drain copies what is unread (O40). -/
theorem ringBufferRoundTrip : Obligations.RingBufferRoundTrip := by
  intro s bytes d hpar hshape hwf ho hi he hlen htop hadm
  have hpos : 0 < rbSize s.par := Nat.two_pow_pos _
  obtain ⟨r, hr, -, hunread, hbovr⟩ := execAll_rbWrite_of_empty hpar hshape he (Nat.lt_of_le_pred hpos hlen)
  have hcount : unreadCount { s with ring := r } = bytes.length := by rw [unreadCount_eq_length, hunread]
  have hbyte : ∀ (k : Nat) (hk : k < bytes.length), unreadByte { s with ring := r } k = bytes[k] := by
    subst hunread
    intro k hk
    simp [rbUnread_eq { s with ring := r }]
  obtain ⟨u, hu, heq, hstored, -⟩ := drainCopiesTheUnreadBytes { s with ring := r } d hwf ho hi
    (by rwa [hcount]) (by rwa [hcount])
  rw [hcount] at heq hstored
  refine ⟨_, u, hr, hu, ?_, fun k hk => ?_, ?_, ?_⟩
  · exact congrArg (·.seq.response) heq
  · rw [hstored k hk, hbyte k hk]
  · exact (congrArg (·.ring.bovr) heq).trans hbovr
  · rw [heq]

/-- Settles O44: all but the last byte fill the ring, and the last one overruns it. -/
theorem fullRingOverruns : Obligations.FullRingOverruns := by
  intro s bytes hpar hshape he hlen
  have hpos : 0 < rbSize s.par := Nat.two_pow_pos _
  obtain rfl | ⟨bs, b, rfl⟩ := bytes.eq_nil_or_concat
  · exact absurd hlen hpos.ne
  rw [List.length_concat] at hlen
  rw [List.concat_eq_append]
  obtain ⟨r, hr, hrshape, hunread, -⟩ := execAll_rbWrite_of_empty hpar hshape he (bytes := bs) (by rw [rbSize]; omega)
  have hfull : unreadCount { s with ring := r } + 1 = rbSize s.par := by
    rw [unreadCount_eq_length, hunread, hlen, rbSize]
  obtain ⟨hleft, hbovr⟩ := rbUnread_ringWritten_of_full (s := { s with ring := r }) hpar hrshape b hfull
  rw [hunread] at hleft
  refine ⟨{ s with ring := ringWritten b { s with ring := r } }, ?_, hbovr, hleft⟩
  rw [List.map_append, execAll_append hr]
  exact execAll_rbWrite_cons b [] _

end Sys2Proof.Machine
end

section
/-! The chip-select procedures and commands, and `INIT`'s port check (R96 to R100, R104). -/
namespace Sys2Proof.Machine

open Sys2Proof.Says

/-! ## The procedures (R96 to R98) -/

theorem csAssert_csAssert (s : State) : csAssert (csAssert s) = csAssert s := by
  obtain ⟨-, -, h⟩ | ⟨-, h⟩ := csAssert_cases s
  · rw [h, csAssert, if_neg (fun hd => hd.2 rfl)]
  · rw [h, h]

theorem csDeassert_csDeassert (s : State) : csDeassert (csDeassert s) = csDeassert s := by
  obtain ⟨-, -, h⟩ | ⟨-, h⟩ := csDeassert_cases s
  · rw [h, csDeassert, if_neg (fun hd => hd.2 rfl)]
  · rw [h, h]

/-- Settles O12. -/
theorem chipSelectProcedures : Obligations.ChipSelectProcedures := fun s =>
  ⟨fun sw port pin => congrArg Host.Outcome.next (csConfigure_frame sw port pin s),
    congrArg Host.Outcome.next (csAssert_eq s), congrArg Host.Outcome.next (csDeassert_eq s)⟩

/-- Settles O13: the level a procedure leaves is the one it does not drive again. -/
theorem chipSelectIsIdempotent : Obligations.ChipSelectIsIdempotent := by
  refine fun s t => ⟨fun h => ?_, fun h => ?_⟩
  · cases h
    exact congrArg Host.Outcome.next (csAssert_csAssert s)
  · cases h
    exact congrArg Host.Outcome.next (csDeassert_csDeassert s)

/-! ## The commands (R99, R100) -/

theorem onPort_csCommand_of_ready (f : State → State) {s : State} (ho : PortOpen s) (hi : s.ctx.inited = true)
    (hr : s.ctx.state = .ready) : onPort (ifInited (csCommand f)) s = .next (answered true 0 0 (f s)) := by
  rw [onPort_open ho, ifInited, if_pos hi, csCommand, if_pos hr, respond, responseWord_zero]
  rfl

theorem onPort_csCommand_of_not_ready (f : State → State) {s : State} (ho : PortOpen s)
    (h : s.ctx.inited = false ∨ s.ctx.state ≠ .ready) :
    onPort (ifInited (csCommand f)) s = .next (answered false 7 0 s) := by
  cases hi : s.ctx.inited with
  | false => exact onPort_ifInited_of_uninitialised _ ho hi
  | true =>
    have hr : s.ctx.state ≠ .ready := h.resolve_left (by simp [hi])
    rw [onPort_open ho, ifInited, if_pos hi, csCommand, if_neg hr, invalidRequest_eq]

/-- Settles O14: both commands are a procedure behind the same gates. -/
theorem chipSelectCommands : Obligations.ChipSelectCommands := by
  intro s ho
  refine ⟨fun ⟨hi, hr⟩ => ⟨?_, ?_⟩,
    fun h => ⟨onPort_csCommand_of_not_ready _ ho h, onPort_csCommand_of_not_ready _ ho h⟩⟩
  · rw [exec_csassert, execCsassert, onPort_csCommand_of_ready _ ho hi hr, csAssert_eq]
    rfl
  · rw [exec_csdeassert, execCsdeassert, onPort_csCommand_of_ready _ ho hi hr, csDeassert_eq]
    rfl

/-! ## The port check (R104) -/

theorem csPortValid_iff {par : Params} {sw : Bool} {port : BitVec 4} :
    csPortValid par sw port = true ↔ ¬ (sw = true ∧ par.gpioPorts ≤ port.toNat) := by
  simp [csPortValid, imp_iff_not_or]

/-- Settles O11: `INIT` is its port check, and past it sets `inited` and answers `RESULT` 1. -/
theorem initChecksThePort : Obligations.InitChecksThePort := by
  refine fun s sw port pin ho => ⟨fun habsent => ?_, fun hthere => ⟨initialise sw port pin s, ?_, ?_, ?_⟩⟩
  · rw [Rejected, exec_init, execInit, onPort_open ho, if_neg (fun hv => csPortValid_iff.mp hv habsent),
      invalidRequest_eq]
  · rw [exec_init, execInit, onPort_open ho, if_pos (csPortValid_iff.mpr hthere)]
  · rw [initialise_eq]
  · rw [initialise_eq]

end Sys2Proof.Machine
end

section
/-! The chip-select history (R95, R97, R98, R101, R102), and the line at the end of a transfer (R103). -/
namespace Sys2Proof.Machine

open Sys2Proof.Says

/-! ## Events that do not drive the line -/

/-- No event of the list is a drive of the line. -/
def OffLine (es : List Event) : Prop := ∀ t : CsTrace, es.foldl csTraceStep t = t

theorem csTrace_append (h es : List Event) : csTrace (h ++ es) = es.foldl csTraceStep (csTrace h) := List.foldl_append

theorem csTrace_append_of_offLine (h : List Event) {es : List Event} (hes : OffLine es) : csTrace (h ++ es) = csTrace h :=
  (csTrace_append h es).trans (hes _)

theorem offLine_map {α : Type} {f : α → Event} (hf : ∀ a t, csTraceStep t (f a) = t) (l : List α) : OffLine (l.map f) :=
  fun t => List.foldl_map.trans (List.foldl_fixed' (fun a => hf a t) l)

theorem offLine_if {p : Prop} [Decidable p] {es : List Event} (h : OffLine es) : OffLine (if p then es else []) := by
  split
  · exact h
  · exact fun _ => rfl

/-! ## Operations that only end transfers -/

/-- What the operations of the interrupt context and a run of stores do to the line: events beside it while `ctx.state`
stands, and a deassertion that ends the transfer, in any order (R103, R117, R118, R150). -/
inductive LineRun : State → State → Prop
  | offLine {s t : State} (es : List Event) : OffLine es → t.history = s.history ++ es → t.cs = s.cs →
      t.ctx.state = s.ctx.state → LineRun s t
  | ended {s t : State} : t.history = s.history ++ deassertEvents s.cs → t.cs = deasserted s.cs →
      t.ctx.state = .ready → LineRun s t
  | trans {s t u : State} : LineRun s t → LineRun t u → LineRun s u

theorem LineRun.of_eq {s t : State} (hh : t.history = s.history) (hc : t.cs = s.cs) (hs : t.ctx.state = s.ctx.state) :
    LineRun s t :=
  .offLine [] (fun _ => rfl) (by rw [hh, List.append_nil]) hc hs

theorem LineRun.refl (s : State) : LineRun s s := .of_eq rfl rfl rfl

theorem lineRun_memWriteAll {a : Addr} {vs : List Byte} {s t : State} (h : memWriteAll a vs s = some t) : LineRun s t := by
  have hstores : OffLine (vs.mapIdx fun k v => .memWr (plus a k) v) := by
    rw [List.mapIdx_eq_zipIdx_map]
    exact offLine_map (fun _ _ => rfl) _
  rw [memWriteAll_events h]
  exact .offLine _ hstores rfl rfl rfl

theorem lineRun_cleanedUp (s : State) : LineRun s (cleanedUp s) := .ended rfl rfl rfl

theorem lineRun_finalized (s : State) : LineRun s (finalized s) := by
  rw [finalized]
  split
  · exact (lineRun_cleanedUp s).trans (.offLine [.clear .eot] (fun _ => rfl) rfl rfl rfl)
  · exact .refl s

theorem lineRun_recover (f : SrFlag) (fs : List SrFlag) (s : State) : LineRun s (recover f fs s) := by
  have hclears : OffLine ((f :: fs).map .clear) := offLine_map (fun _ _ => rfl) _
  rw [recover_eq]
  exact (LineRun.offLine (t := { s with history := s.history ++ (f :: fs).map .clear }) _ hclears rfl rfl rfl).trans
    (.ended rfl rfl rfl)

theorem lineRun_errorHandler (sr0 : Reg) (s : State) : LineRun s (errorHandler sr0 s) := by
  obtain h | h | ⟨f, fs, -, h⟩ := errorHandler_cases sr0 s
  · exact h ▸ .offLine [.clear .susp] (fun _ => rfl) rfl rfl rfl
  · exact h.symm ▸ .refl s
  · exact h ▸ lineRun_recover f fs s

theorem lineRun_completeHandled (s : State) : LineRun s (completeHandled s) := by
  rw [completeHandled_eq, stepFive]
  split
  · split
    · exact lineRun_finalized s
    · exact lineRun_cleanedUp s
  · exact .refl s

theorem lineRun_stepSix (sr0 : Reg) (s : State) : LineRun s (stepSix sr0 s) := by
  rw [stepSix, finalizeOp_eq]
  exact (lineRun_finalized s).trans (lineRun_errorHandler sr0 _)

theorem lineRun_txMoveIf {s t : State} (h : txMoveIf s = some t) : LineRun s t := by
  obtain ⟨-, rfl⟩ | ⟨-, -, rfl⟩ := txMoveIf_eq h
  · exact .refl _
  · exact .offLine [_, _] (fun _ => rfl) rfl rfl rfl

theorem lineRun_rxMoveIf {s t : State} (h : rxMoveIf s = some t) : LineRun s t := by
  obtain ⟨-, rfl⟩ | ⟨-, -, rfl⟩ := rxMoveIf_eq h
  · exact .refl _
  · have hread : LineRun s (readRx s) := .offLine [.rxByte (rxDraw s)] (fun _ => rfl) rfl rfl rfl
    exact hread.trans (.offLine _ (offLine_if fun _ => rfl) rfl rfl rfl)

theorem Effect.lineRun_of_irq {s t : State} (h : Effect .irq s t) : LineRun s t := by
  cases h with
  | rejected hi => cases hi
  | @irqMoved _ u v _ hu hv =>
    have htx : LineRun s u := hu.elim (fun e => e ▸ .refl s) lineRun_txMoveIf
    have hrx : LineRun u v := hv.elim (fun e => e ▸ .refl u) lineRun_rxMoveIf
    exact (htx.trans hrx).trans (lineRun_completeHandled v)
  | irqOther => exact lineRun_stepSix _ s
  | irqStuck => exact .of_eq rfl rfl rfl

/-! ## The history and the line agree -/

/-- `CsHistoryGood` as a relation between a line and a history. -/
structure LineGood (c : ChipSelect) (h : List Event) : Prop where
  good : (csTrace h).good = true
  shaped : c.sw = true ↔ c.out ≠ .undriven
  last : c.sw = true → (csTrace h).last = c.out

theorem csHistoryGood_iff {s : State} : CsHistoryGood s ↔ LineGood s.cs s.history :=
  ⟨fun ⟨hgood, hshaped, hlast⟩ => ⟨hgood, hshaped, hlast⟩, fun ⟨hgood, hshaped, hlast⟩ => ⟨hgood, hshaped, hlast⟩⟩

namespace LineGood
variable {c : ChipSelect} {h : List Event} (hl : LineGood c h)
include hl

theorem append {es : List Event} (hes : OffLine es) : LineGood c (h ++ es) := by
  have htrace := csTrace_append_of_offLine h hes
  exact ⟨by rw [htrace, hl.good], hl.shaped, by rw [htrace]; exact hl.last⟩

/-- An assertion comes from the level the history drove last, the inactive one (R97). -/
theorem asserted : LineGood (asserted c) (h ++ assertEvents c) := by
  by_cases hd : c.sw = true ∧ c.out ≠ .low
  · have hhigh : c.out = .high := by
      have hdriven := hl.shaped.mp hd.1
      cases ho : c.out with
      | undriven => exact absurd ho hdriven
      | low => exact absurd ho hd.2
      | high => rfl
    have hlast : (csTrace h).last = .high := (hl.last hd.1).trans hhigh
    rw [Says.asserted, assertEvents, if_pos hd, if_pos hd]
    exact ⟨by simp [csTrace_append, csTraceStep, hl.good, hlast], by simp [hd.1],
      fun _ => by simp [csTrace_append, csTraceStep]⟩
  · rw [Says.asserted, assertEvents, if_neg hd, if_neg hd, List.append_nil]
    exact hl

theorem deasserted : LineGood (deasserted c) (h ++ deassertEvents c) := by
  by_cases hd : c.sw = true ∧ c.out ≠ .high
  · rw [Says.deasserted, deassertEvents, if_pos hd, if_pos hd]
    exact ⟨by simp [csTrace_append, csTraceStep, hl.good], by simp [hd.1],
      fun _ => by simp [csTrace_append, csTraceStep]⟩
  · rw [Says.deasserted, deassertEvents, if_neg hd, if_neg hd, List.append_nil]
    exact hl

/-- A configured line is driven to the inactive level, or no longer driven (R96, R101). -/
theorem configured (sw : Bool) (port pin : BitVec 4) :
    LineGood
      (if sw = true then { sw := true, port := port, pin := pin, clk := true, out := .high }
        else { sw := false, port := 0#4, pin := 0#4, clk := c.clk, out := .undriven })
      (h ++ (if sw = true then [.csHigh] else [])) := by
  cases sw with
  | false => exact ⟨by simpa using hl.good, by simp, by simp⟩
  | true =>
    exact ⟨by simp [csTrace_append, csTraceStep, hl.good], by simp, fun _ => by simp [csTrace_append, csTraceStep]⟩

end LineGood

theorem LineRun.keeps_lineGood {s t : State} (hr : LineRun s t) (h : LineGood s.cs s.history) : LineGood t.cs t.history := by
  induction hr with
  | offLine es hes hh hc _ =>
    rw [hh, hc]
    exact h.append hes
  | ended hh hc _ =>
    rw [hh, hc]
    exact h.deasserted
  | trans _ _ ih ih' => exact ih' (ih h)

theorem lineGood_csAssert {s : State} (h : LineGood s.cs s.history) : LineGood (csAssert s).cs (csAssert s).history := by
  rw [csAssert_eq]
  exact h.asserted

theorem lineGood_csDeassert {s : State} (h : LineGood s.cs s.history) :
    LineGood (csDeassert s).cs (csDeassert s).history := by
  rw [csDeassert_eq]
  exact h.deasserted

/-- Every effect of an instruction keeps the agreement of history and line. -/
theorem Effect.keeps_lineGood {i : Instr} {s t : State} (he : Effect i s t) (h : LineGood s.cs s.history) :
    LineGood t.cs t.history := by
  have hirq : i = .irq → Effect .irq s t := fun e => e ▸ he
  cases he with
  | @init sw port pin =>
    have hclears : OffLine [.clear .eot, .clear .udr, .clear .ovr, .clear .fre, .clear .modf, .clear .susp] := fun _ => rfl
    rw [initialise_eq]
    exact (h.append hclears).configured sw port pin
  | @csInit sw port pin =>
    rw [csConfigure_frame]
    exact h.configured sw port pin
  | xfer | txonly | rxonly => exact h.asserted.append (es := [.start]) fun _ => rfl
  | csassert | csAssertP => exact lineGood_csAssert h
  | csdeassert | csDeassertP => exact lineGood_csDeassert h
  | drained _ _ hu => exact (lineRun_memWriteAll hu).keeps_lineGood h
  | irqMoved | irqOther | irqStuck => exact (hirq rfl).lineRun_of_irq.keeps_lineGood h
  | finalize => exact (lineRun_finalized s).keeps_lineGood h
  | cleanup => exact (lineRun_cleanedUp s).keeps_lineGood h
  | errh => exact (lineRun_errorHandler _ s).keeps_lineGood h
  | tick => exact h.append (es := [.tick]) fun _ => rfl
  | failed | succeeded | timedOut => exact h.append (es := [.release _ _]) fun _ => rfl
  | rejected | drainStuck | status | pstep | waits | rbWrite => exact h

/-- Settles O51: a step runs an instruction, whose effects keep the agreement, or touches neither history nor line. -/
theorem chipSelectHistoryStaysGood : Obligations.ChipSelectHistoryStaysGood := by
  intro s t hs h
  have hline : LineGood s.cs s.history := csHistoryGood_iff.mp hs
  obtain ⟨u, ⟨ms, n, rfl⟩, ⟨i, hi⟩ | ⟨a, v, -, rfl⟩ | rfl⟩ := step_next h
  · exact csHistoryGood_iff.mpr ((effect_of_exec hi).keeps_lineGood hline)
  · exact hs
  · exact hs

/-! ## The line at the end of a transfer (R103) -/

/-- The line is not asserted in `Ready`. The interrupt context keeps this; `CSASSERT` in `Ready` does not (R99). -/
structure DeassertedIfReady (s : State) : Prop where
  shaped : ChipSelectShaped s
  out : s.ctx.state = .ready → s.cs.out ≠ .low

theorem deasserted_out_ne_low {c : ChipSelect} (h : c.sw = true ↔ c.out ≠ .undriven) : (deasserted c).out ≠ .low := by
  by_cases hd : c.sw = true ∧ c.out ≠ .high
  · rw [deasserted, if_pos hd]
    exact nofun
  · rw [deasserted, if_neg hd]
    intro hlow
    exact hd ⟨h.mpr (by simp [hlow]), by simp [hlow]⟩

theorem LineRun.keeps_deassertedIfReady {s t : State} (hr : LineRun s t) (h : DeassertedIfReady s) :
    DeassertedIfReady t := by
  induction hr with
  | offLine _ _ _ hc hs =>
    obtain ⟨hshaped, hout⟩ := h
    exact ⟨by rwa [ChipSelectShaped, hc], by rwa [hc, hs]⟩
  | ended _ hc _ =>
    exact ⟨by rw [ChipSelectShaped, hc]; exact deasserted_shaped _ h.shaped,
      fun _ => by rw [hc]; exact deasserted_out_ne_low h.shaped⟩
  | trans _ _ ih ih' => exact ih' (ih h)

/-- Settles O55: only `INIT` and the interrupt context's operations end a transfer; `INIT` configures the line, and these
deassert it. -/
theorem leavingBusyDeassertsTheLine : Obligations.LeavingBusyDeassertsTheLine := by
  intro s t i hshaped hbusy h hready
  have hstate : s.ctx.state ≠ .ready := fun hr => by simp [hr, isBusy] at hbusy
  have hs : DeassertedIfReady s := ⟨hshaped, fun hr => absurd hr hstate⟩
  have he := effect_of_exec h
  have hirq : i = .irq → Effect .irq s t := fun e => e ▸ he
  cases he with
  | @init sw =>
    rw [initialise_eq]
    cases sw <;> simp
  | irqMoved | irqOther | irqStuck => exact ((hirq rfl).lineRun_of_irq.keeps_deassertedIfReady hs).out hready
  | finalize => exact ((lineRun_finalized s).keeps_deassertedIfReady hs).out hready
  | cleanup => exact ((lineRun_cleanedUp s).keeps_deassertedIfReady hs).out hready
  | errh => exact ((lineRun_errorHandler _ s).keeps_deassertedIfReady hs).out hready
  | xfer _ ha | txonly _ ha | rxonly _ ha =>
    obtain ⟨-, hr, -⟩ := ha
    exact absurd hr hstate
  | csassert _ _ hr | csdeassert _ _ hr => exact absurd hr hstate
  | drained _ _ hu => exact ((lineRun_memWriteAll hu).keeps_deassertedIfReady hs).out hready
  | csAssertP => exact absurd (by simpa [csAssert_eq] using hready) hstate
  | csDeassertP => exact absurd (by simpa [csDeassert_eq] using hready) hstate
  | csInit => exact absurd (by simpa [csConfigure_frame] using hready) hstate
  | rejected | drainStuck | status | tick | pstep | failed | succeeded | timedOut | waits | rbWrite =>
    exact absurd hready hstate

end Sys2Proof.Machine
end

section
/-! The transfer commands, the bounded wait, the ends of a transfer, and every transition of `ctx.state` (R106 to R118, R178). -/
namespace Sys2Proof.Machine

open Sys2Proof.Says

/-! ## Starting a transfer (R107 to R112) -/

theorem onPort_start_of_allowed (kind : CmdKind) {sl rl : Len} {sa ra : Addr} {s : State} (ho : PortOpen s)
    (ha : StartAllowed sl sa rl ra s) :
    onPort (ifInited (start kind sl sa rl ra)) s = .next (started kind sl sa rl ra s) := by
  have ⟨hi, _⟩ := ha
  rw [onPort_open ho, ifInited, if_pos hi, start, if_pos (startLegal_iff.mpr ha), startTransfer_eq]

/-- A condition of R108 fails at the command, or before it at the gate of step 3 (R71). -/
theorem onPort_start_of_not_allowed (kind : CmdKind) {sl rl : Len} {sa ra : Addr} {s : State} (ho : PortOpen s)
    (hn : ¬ StartAllowed sl sa rl ra s) :
    onPort (ifInited (start kind sl sa rl ra)) s = .next (answered false 7 0 s) := by
  cases hi : s.ctx.inited with
  | false => exact onPort_ifInited_of_uninitialised _ ho hi
  | true => rw [onPort_open ho, ifInited, if_pos hi, start, if_neg (mt startLegal_iff.mp hn), invalidRequest_eq]

/-- Settles O16. -/
theorem xferStarts : Obligations.XferStarts :=
  fun _ _ _ _ _ ho ha => onPort_start_of_allowed .xfer ho ha

/-- Settles O17. -/
theorem txonlyStarts : Obligations.TxonlyStarts :=
  fun _ _ _ ho ha => onPort_start_of_allowed .txonly ho ha

/-- Settles O18. -/
theorem rxonlyStarts : Obligations.RxonlyStarts :=
  fun _ _ _ ho ha => onPort_start_of_allowed .rxonly ho ha

/-- Settles O19: the three commands are one `START` behind the same gates. -/
theorem illegalTransfersAreRejected : Obligations.IllegalTransfersAreRejected :=
  fun _ _ _ _ _ ho =>
    ⟨onPort_start_of_not_allowed .xfer ho, onPort_start_of_not_allowed .txonly ho, onPort_start_of_not_allowed .rxonly ho⟩

/-! ## The bounded wait (R116) -/

theorem timedOut_iff {s : State} : timedOut s = true ↔ s.par.timeoutTicks < (s.tick - s.ctx.t0).toNat := by
  rw [timedOut, decide_eq_true_iff]

/-- Settles O20: the four cases of the wait in its own order, each release in the words of R116. -/
theorem pollReleasesTheCaller : Obligations.PollReleasesTheCaller := by
  intro s hw
  rw [exec_poll, execPoll_waiting hw, pollStep]
  simp only [release_eq, timedOut_iff]
  rfl

/-! ## The ends of a transfer (R117, R118) -/

/-- Settles O23. -/
theorem finalizeEndsTheTransfer : Obligations.FinalizeEndsTheTransfer :=
  fun s => congrArg Host.Outcome.next (finalizeOp_eq s)

/-- Settles O24. -/
theorem cleanupEndsTheTransfer : Obligations.CleanupEndsTheTransfer :=
  fun s => congrArg Host.Outcome.next (cleanupOp_eq s)

/-! ## Suspend with end-of-transfer (R139, R149, R178) -/

theorem invocation_of_no_data {s : State} (hd : ¬ Duplex s) (hr : ¬ inCause .rxp s) (ht : ¬ inCause .txp s) :
    invocation s = some (stepSix s.p.sr s) := by
  rw [invocation, if_neg (mt duplexReady_iff.mp hd)]
  exact (if_neg hr).trans (if_neg ht)

theorem errorHandler_of_suspend {sr0 : Reg} (hs : hasFlag .susp sr0 = true) (he : hasFlag .eot sr0 = true) (s : State) :
    errorHandler sr0 s = suspendCleared s := by
  rw [errorHandler, if_pos ⟨hs, he⟩]
  rfl

/-- Step 6 finalizes, and the suspend case of the handler then clears no error flag. -/
theorem stepSix_of_suspend {sr0 : Reg} (hs : hasFlag .susp sr0 = true) (he : hasFlag .eot sr0 = true) (s : State) :
    stepSix sr0 s = suspendCleared (finalized s) := by
  rw [stepSix, finalizeOp_eq, errorHandler_of_suspend hs he]

/-- The error flags are beside `EOT` and `SUSP` (R30). -/
theorem errorFlags_of_eot_susp_cleared (r : Reg) : r &&& ~~~ 0x8#32 &&& ~~~ 0x800#32 &&& 0x360#32 = r &&& 0x360#32 := by
  have hmask : ~~~ 0x8#32 &&& (~~~ 0x800#32 &&& 0x360#32) = 0x360#32 := by decide
  rw [BitVec.and_assoc, BitVec.and_assoc, hmask]

/-- Settles O37: finalization leaves both done flags and no source, the handler's suspend case hides the error from the wait,
and so the next `POLL` succeeds (O20). -/
theorem suspendMasksAnError : Obligations.SuspendMasksAnError := by
  intro s t hready hd hr ht heot hsusp herr hw h
  have hinv : orIrqStuck (invocation s) s = suspendCleared (finalized s) := by
    rw [invocation_of_no_data hd hr ht, orIrqStuck, stepSix_of_suspend hsusp heot]
  rw [exec_irq, execIrq_ready hready, hinv, finalized, if_pos heot] at h
  cases h
  refine ⟨rfl, errorFlags_of_eot_susp_cleared s.p.sr, rfl, _, pollReleasesTheCaller _ hw, ?_⟩
  rw [if_neg (by simp [suspendCleared, herr]), if_pos ⟨rfl, rfl⟩]
  exact ⟨rfl, rfl⟩

/-! ## Transitions of `ctx.state` (R106, R120) -/

theorem LineRun.state {s t : State} (h : LineRun s t) : t.ctx.state = s.ctx.state ∨ t.ctx.state = .ready := by
  induction h with
  | offLine _ _ _ _ hs => exact .inl hs
  | ended _ _ hs => exact .inr hs
  | trans _ _ ih ih' =>
    obtain hu | hu := ih'
    · rwa [hu]
    · exact .inr hu

theorem started_from_ready_to_busy (kind : CmdKind) {sl rl : Len} {sa ra : Addr} {s : State}
    (ha : StartAllowed sl sa rl ra s) :
    s.ctx.state = .ready ∧ isBusy (started kind sl sa rl ra s).ctx.state = true := by
  obtain ⟨-, hr, hlen, -⟩ := ha
  refine ⟨hr, ?_⟩
  obtain ⟨-, -, hst, -⟩ | ⟨-, -, hst, -⟩ | ⟨-, -, hst, -⟩ := started_cases kind sl sa rl ra s hlen
  all_goals rw [hst]; rfl

/-- Settles O54: a start goes from `Ready` to Busy, the ends of a transfer and `INIT` go to `Ready`, and no other effect
writes `ctx.state`. -/
theorem onlyTheListedTransitions : Obligations.OnlyTheListedTransitions := by
  intro s t i h
  have he := effect_of_exec h
  have hirq : i = .irq → Effect .irq s t := fun e => e ▸ he
  cases he with
  | init => exact .inr (.inl ⟨by rw [initialise_eq], by simp [isInit]⟩)
  | xfer _ ha =>
    obtain ⟨hr, hb⟩ := started_from_ready_to_busy _ ha
    exact .inr (.inr ⟨hr, hb, .inl ⟨_, _, _, _, rfl⟩⟩)
  | txonly _ ha =>
    obtain ⟨hr, hb⟩ := started_from_ready_to_busy _ ha
    exact .inr (.inr ⟨hr, hb, .inr (.inl ⟨_, _, rfl⟩)⟩)
  | rxonly _ ha =>
    obtain ⟨hr, hb⟩ := started_from_ready_to_busy _ ha
    exact .inr (.inr ⟨hr, hb, .inr (.inr ⟨_, _, rfl⟩)⟩)
  | irqMoved | irqOther | irqStuck =>
    exact (hirq rfl).lineRun_of_irq.state.imp_right fun hr => .inl ⟨hr, .inl rfl⟩
  | finalize => exact (lineRun_finalized s).state.imp_right fun hr => .inl ⟨hr, .inr (.inl rfl)⟩
  | cleanup => exact .inr (.inl ⟨rfl, .inr (.inr (.inl rfl))⟩)
  | errh => exact (lineRun_errorHandler _ s).state.imp_right fun hr => .inl ⟨hr, by simp⟩
  | drained _ _ hu =>
    obtain ⟨m, es, rfl⟩ := memWriteAll_frame hu
    exact .inl rfl
  | csassert | csAssertP => simp [csAssert_eq]
  | csdeassert | csDeassertP => simp [csDeassert_eq]
  | csInit => simp [csConfigure_frame]
  | rejected | drainStuck | status | tick | pstep | failed | succeeded | timedOut | waits | rbWrite => exact .inl rfl

end Sys2Proof.Machine
end

section
/-! The dispatcher's data invocations in the words of the statements (R131 to R138). -/
namespace Sys2Proof.Machine

open Sys2Proof.Says

/-! ## Byte moves that reach memory (R134, R140) -/

theorem exists_txMoveIf_of_reachable {s : State} (h : SendReachable s) : ∃ t, txMoveIf s = some t := by
  by_cases hr : s.ctx.txRemaining = 0#16
  · exact ⟨s, if_pos hr⟩
  · have ha : memAdmits s.par (txAddr s.ctx) = true := txAddr_eq s ▸ h hr
    exact ⟨_, by rw [txMoveIf, if_neg hr, txMove, memRead, if_pos ha, Option.map_some]⟩

theorem txMoveIf_of_reachable {s : State} (h : SendReachable s) :
    txMoveIf s = some (if s.ctx.txRemaining = 0#16 then s else sent s) := by
  obtain ⟨t, ht⟩ := exists_txMoveIf_of_reachable h
  obtain ⟨hr, rfl⟩ | ⟨hr, -, rfl⟩ := txMoveIf_eq ht
  · rw [ht, if_pos hr]
  · rw [ht, if_neg hr]

theorem exists_rxDeliver_of_reachable {v : Byte} {s : State}
    (h : ReceivesToMemory s → memAdmits s.par (recvAddr s) = true) : ∃ t, rxDeliver v s = some t := by
  rw [rxDeliver]
  split
  · exact ⟨_, rfl⟩
  · split
    · have ha : memAdmits s.par (rxAddr s.ctx) = true := rxAddr_eq s ▸ h ⟨Bool.eq_false_iff.mpr ‹_›, ‹_›⟩
      exact ⟨_, memWrite_of_memAdmits v ha⟩
    · exact ⟨_, rfl⟩

theorem exists_rxMoveIf_of_reachable {s : State} (h : RecvReachable s) : ∃ t, rxMoveIf s = some t := by
  by_cases hr : s.ctx.rxRemaining = 0#16
  · exact ⟨s, if_pos hr⟩
  · obtain ⟨u, hu⟩ := exists_rxDeliver_of_reachable (v := rxDraw s) (s := readRx s) (h hr)
    exact ⟨_, by rw [rxMoveIf, if_neg hr, rxMove, hu, Option.map_some]⟩

theorem rxMoveIf_of_reachable {s : State} (h : RecvReachable s) :
    rxMoveIf s = some (if s.ctx.rxRemaining = 0#16 then s else received (rxDraw s) s) := by
  obtain ⟨t, ht⟩ := exists_rxMoveIf_of_reachable h
  obtain ⟨hr, rfl⟩ | ⟨hr, -, rfl⟩ := rxMoveIf_eq ht
  · rw [ht, if_pos hr]
  · rw [ht, if_neg hr]

theorem rxDraw_of_pinned {s : State} {b : Byte} (h : s.rxPinned = some b) : rxDraw s = b := by
  rw [rxDraw, h]

/-! ## The invocations -/

theorem exec_irq_of_invocation {s t : State} (hready : IrqReady s) (h : invocation s = some t) :
    exec .irq s = .next t := by
  rw [exec_irq, execIrq_ready hready, h, orIrqStuck]

/-- Settles O25: both guarded moves reach memory, and the transmit move leaves the draw and the receive count. -/
theorem duplexInvocationMovesAPair : Obligations.DuplexInvocationMovesAPair := by
  intro s hready hd hsend hrecv
  have htx := txMoveIf_of_reachable hsend
  have hrx := rxMoveIf_of_reachable ((recvReachable_iff_of_txMoveIf htx).mpr hrecv)
  refine ⟨rxDraw s, fun b hb => rxDraw_of_pinned hb, exec_irq_of_invocation hready ?_⟩
  rw [invocation_of_duplex hd, htx, Option.bind_some, hrx, Option.map_some, completeHandled_eq]
  by_cases hr : s.ctx.txRemaining = 0#16
  · simp only [if_pos hr]
  · simp only [if_neg hr]
    rfl

/-- Settles O26. -/
theorem receiveInvocationMovesOneByte : Obligations.ReceiveInvocationMovesOneByte := by
  intro s hready hd hr hrecv
  refine ⟨rxDraw s, fun b hb => rxDraw_of_pinned hb, exec_irq_of_invocation hready ?_⟩
  rw [invocation_of_rxp hd hr, rxMoveIf_of_reachable hrecv, Option.map_some, completeHandled_eq]

/-- Settles O27. -/
theorem transmitInvocationMovesOneByte : Obligations.TransmitInvocationMovesOneByte := by
  intro s hready hd hr ht hsend
  refine exec_irq_of_invocation hready ?_
  rw [invocation_of_txp hd hr ht, txMoveIf_of_reachable hsend, Option.map_some, completeHandled_eq]

end Sys2Proof.Machine
end

section
/-! The Error/Disable Handler as one equation of the whole state (R149 to R151), and the invocation that ends in it (R139). -/
namespace Sys2Proof.Machine

open Sys2Proof.Says

/-! ## Lists of flags as masks -/

/-- The mask of a list of flags. -/
def flagsMask (fs : List SrFlag) : Reg := fs.foldr (fun f m => flagMask f ||| m) 0#32

theorem flagsMask_cons (f : SrFlag) (fs : List SrFlag) : flagsMask (f :: fs) = flagMask f ||| flagsMask fs := rfl

theorem flagMask_ne_zero (f : SrFlag) : flagMask f ≠ 0#32 := by
  cases f <;> decide

theorem flagsMask_eq_zero_iff {fs : List SrFlag} : flagsMask fs = 0#32 ↔ fs = [] := by
  cases fs with
  | nil => simp [flagsMask]
  | cons f fs => simp [flagsMask_cons, flagMask_ne_zero]

theorem and_flagMask (f : SrFlag) (r : Reg) : r &&& flagMask f = if hasFlag f r = true then flagMask f else 0#32 :=
  BitVec.and_twoPow r (flagBit f)

/-- The flags of a list that a register has set are the register's bits under the list's mask. -/
theorem flagsMask_filter (fs : List SrFlag) (r : Reg) :
    flagsMask (fs.filter fun f => hasFlag f r) = r &&& flagsMask fs := by
  induction fs with
  | nil => exact BitVec.and_zero.symm
  | cons f fs ih =>
    rw [flagsMask_cons, BitVec.and_or_distrib_left, and_flagMask, ← ih, List.filter_cons]
    split
    · rfl
    · exact BitVec.zero_or.symm

/-- Dropping clearable flags one after the other is dropping their mask. -/
theorem foldl_dropFlag {fs : List SrFlag} (h : ∀ f ∈ fs, clearable f = true) (r : Reg) :
    fs.foldl (fun r f => if clearable f then dropFlag f r else r) r = r &&& ~~~ flagsMask fs := by
  induction fs generalizing r with
  | nil => exact BitVec.and_allOnes.symm
  | cons f fs ih =>
    obtain ⟨hf, hfs⟩ := List.forall_mem_cons.mp h
    rw [List.foldl_cons, if_pos hf, ih hfs, dropFlag, flagsMask_cons, BitVec.not_or, BitVec.and_assoc]

/-! ## The error flags of a snapshot (R149, R151) -/

theorem flagsMask_errFlags (sr0 : Reg) : flagsMask (errFlags sr0) = sr0 &&& 0x360#32 := flagsMask_filter _ sr0

theorem clearable_of_mem_errFlags {sr0 : Reg} {f : SrFlag} (h : f ∈ errFlags sr0) : clearable f = true := by
  have herr : ∀ g ∈ [SrFlag.ovr, .modf, .fre, .udr], clearable g = true := by decide
  exact herr f (List.mem_of_mem_filter h)

theorem map_filter_cons {α β : Type} (e : α → β) (p : α → Bool) (x : α) (xs : List α) :
    ((x :: xs).filter p).map e = (if p x = true then [e x] else []) ++ (xs.filter p).map e := by
  rw [List.filter_cons]
  split
  · rfl
  · exact (List.nil_append _).symm

theorem map_errFlags {α : Type} (e : SrFlag → α) (sr0 : Reg) :
    (errFlags sr0).map e =
      (if hasFlag .ovr sr0 = true then [e .ovr] else []) ++ (if hasFlag .modf sr0 = true then [e .modf] else [])
        ++ (if hasFlag .fre sr0 = true then [e .fre] else []) ++ (if hasFlag .udr sr0 = true then [e .udr] else []) := by
  simp only [errFlags, map_filter_cons, List.filter_nil, List.map_nil, List.append_nil, List.append_assoc]

/-- The handler's order picks the error that is recorded (R151). -/
theorem errKindOf_head_errFlags {sr0 : Reg} {f : SrFlag} {fs : List SrFlag} (h : errFlags sr0 = f :: fs) :
    errKindOf f =
      if hasFlag .ovr sr0 = true then .busOverrun
      else if hasFlag .modf sr0 = true then .modeFault
      else if hasFlag .fre sr0 = true then .frameError
      else .underrun := by
  have hfirst : [SrFlag.ovr, .modf, .fre, .udr].find? (fun g => hasFlag g sr0) = some f := by
    rw [← List.head?_filter]
    exact congrArg List.head? h
  simp only [List.find?_cons_eq_some, List.find?_nil, reduceCtorEq, and_false, or_false, Bool.not_eq_true'] at hfirst
  obtain ⟨ho, rfl⟩ | ⟨ho, ⟨hm, rfl⟩ | ⟨hm, ⟨hf, rfl⟩ | ⟨hf, -, rfl⟩⟩⟩ := hfirst
  · simp [ho, errKindOf]
  · simp [ho, hm, errKindOf]
  · simp [ho, hm, hf, errKindOf]
  · simp [ho, hm, hf, errKindOf]

/-! ## The handler -/

/-- The recovery clears every error flag of the snapshot, whose mask is bits 5, 6, 8 and 9 (R150). -/
theorem recover_errFlags_eq {sr0 : Reg} {f : SrFlag} {fs : List SrFlag} (h : errFlags sr0 = f :: fs) (s : State) :
    recover f fs s = recovered sr0 s := by
  have hclear : ∀ g ∈ f :: fs, clearable g = true := fun g hg => clearable_of_mem_errFlags (h ▸ hg)
  rw [recover_eq, foldl_dropFlag hclear, errKindOf_head_errFlags h, ← h, flagsMask_errFlags, map_errFlags]
  simp only [recovered, List.append_assoc]

theorem errorHandler_eq (sr0 : Reg) (s : State) : errorHandler sr0 s = errorsHandled sr0 s := by
  by_cases hs : hasFlag .susp sr0 = true ∧ hasFlag .eot sr0 = true
  · obtain ⟨hsusp, heot⟩ := hs
    rw [errorHandler_of_suspend hsusp heot, errorsHandled, if_pos ⟨hsusp, heot⟩]
  · rw [errorHandler, if_neg hs, errorsHandled, if_neg hs, ← flagsMask_errFlags]
    cases h : errFlags sr0 with
    | nil => rw [if_pos (flagsMask_eq_zero_iff.mpr rfl)]
    | cons f fs =>
      rw [if_neg (mt flagsMask_eq_zero_iff.mp (List.cons_ne_nil f fs))]
      exact recover_errFlags_eq h s

/-- Settles O28: step 6 is the two equations of its parts. -/
theorem otherInvocationsFinalizeThenHandleErrors : Obligations.OtherInvocationsFinalizeThenHandleErrors := by
  intro s hready hd hr ht
  refine exec_irq_of_invocation hready ?_
  rw [invocation_of_no_data hd hr ht, stepSix, finalizeOp_eq, errorHandler_eq]

end Sys2Proof.Machine
end

section
/-! The cursors through an invocation (R134, R136, R142, R143). -/
namespace Sys2Proof.Machine

open Sys2Proof.Says

/-! ## Cursors -/

/-- A direction's index and the count of bytes left to move (R24, R25). -/
structure ByteCursor where
  idx : Len
  left : Len

/-- The cursor one byte further (R134). -/
def ByteCursor.next (c : ByteCursor) : ByteCursor := ⟨c.idx + 1#16, c.left - 1#16⟩

/-- The transmit cursor of a state. -/
def State.sendCursor (s : State) : ByteCursor := ⟨s.ctx.txIdx, s.ctx.txRemaining⟩

/-- The receive cursor of a state. -/
def State.recvCursor (s : State) : ByteCursor := ⟨s.ctx.rxIdx, s.ctx.rxRemaining⟩

/-- What holds of an operation that moves no byte: both cursors stand, and nothing is read from the wire. -/
structure MovesNoByte (s t : State) : Prop where
  send : t.sendCursor = s.sendCursor
  recv : t.recvCursor = s.recvCursor
  draws : t.rxDraws = s.rxDraws

theorem MovesNoByte.refl (s : State) : MovesNoByte s s := ⟨rfl, rfl, rfl⟩

theorem MovesNoByte.trans {s t u : State} (h : MovesNoByte s t) (h' : MovesNoByte t u) : MovesNoByte s u :=
  ⟨h'.send.trans h.send, h'.recv.trans h.recv, h'.draws.trans h.draws⟩

/-- At most one byte has moved out (R136). -/
def SendsAtMostOne (s t : State) : Prop :=
  t.sendCursor = s.sendCursor ∨ (s.sendCursor.left ≠ 0#16 ∧ t.sendCursor = s.sendCursor.next)

/-- At most one byte has been read from the wire and moved in (R136). -/
def ReceivesAtMostOne (s t : State) : Prop :=
  (t.recvCursor = s.recvCursor ∧ t.rxDraws = s.rxDraws)
    ∨ (s.recvCursor.left ≠ 0#16 ∧ t.recvCursor = s.recvCursor.next ∧ t.rxDraws = s.rxDraws + 1)

/-! ## What each operation does to them -/

theorem finalized_movesNoByte (s : State) : MovesNoByte s (finalized s) := by
  rw [finalized]
  split
  · exact ⟨rfl, rfl, rfl⟩
  · exact .refl s

theorem completeHandled_movesNoByte (s : State) : MovesNoByte s (completeHandled s) := by
  rw [completeHandled_eq, stepFive]
  split
  · split
    · exact finalized_movesNoByte s
    · exact ⟨rfl, rfl, rfl⟩
  · exact .refl s

theorem errorHandler_movesNoByte (sr0 : Reg) (s : State) : MovesNoByte s (errorHandler sr0 s) := by
  rw [errorHandler_eq, errorsHandled]
  split
  · exact ⟨rfl, rfl, rfl⟩
  · split
    · exact .refl s
    · exact ⟨rfl, rfl, rfl⟩

theorem stepSix_movesNoByte (sr0 : Reg) (s : State) : MovesNoByte s (stepSix sr0 s) := by
  rw [stepSix, finalizeOp_eq]
  exact (finalized_movesNoByte s).trans (errorHandler_movesNoByte sr0 _)

theorem txMoveIf_sendsAtMostOne {s t : State} (h : txMoveIf s = some t) :
    SendsAtMostOne s t ∧ t.recvCursor = s.recvCursor ∧ t.rxDraws = s.rxDraws := by
  obtain ⟨-, rfl⟩ | ⟨hr, -, rfl⟩ := txMoveIf_eq h
  · exact ⟨.inl rfl, rfl, rfl⟩
  · exact ⟨.inr ⟨hr, rfl⟩, rfl, rfl⟩

theorem rxMoveIf_receivesAtMostOne {s t : State} (h : rxMoveIf s = some t) :
    t.sendCursor = s.sendCursor ∧ ReceivesAtMostOne s t := by
  obtain ⟨-, rfl⟩ | ⟨hr, -, rfl⟩ := rxMoveIf_eq h
  · exact ⟨rfl, .inl ⟨rfl, rfl⟩⟩
  · exact ⟨rfl, .inr ⟨hr, rfl, rfl⟩⟩

theorem MovesNoByte.atMostOne {s t : State} (h : MovesNoByte s t) : SendsAtMostOne s t ∧ ReceivesAtMostOne s t :=
  ⟨.inl h.send, .inl ⟨h.recv, h.draws⟩⟩

/-- An invocation is at most one move each way and steps that move no byte. -/
theorem Effect.atMostOne_of_irq {s t : State} (h : Effect .irq s t) : SendsAtMostOne s t ∧ ReceivesAtMostOne s t := by
  cases h with
  | rejected hi => cases hi
  | @irqMoved _ u v _ hu hv =>
    have htx : SendsAtMostOne s u ∧ u.recvCursor = s.recvCursor ∧ u.rxDraws = s.rxDraws :=
      hu.elim (fun e => e ▸ ⟨.inl rfl, rfl, rfl⟩) txMoveIf_sendsAtMostOne
    have hrx : v.sendCursor = u.sendCursor ∧ ReceivesAtMostOne u v :=
      hv.elim (fun e => e ▸ ⟨rfl, .inl ⟨rfl, rfl⟩⟩) rxMoveIf_receivesAtMostOne
    obtain ⟨hsend, hrecv, hdraws⟩ := htx
    obtain ⟨hsend', hrecv'⟩ := hrx
    have hend := completeHandled_movesNoByte v
    rw [ReceivesAtMostOne, hrecv, hdraws] at hrecv'
    rw [SendsAtMostOne, ReceivesAtMostOne, hend.send, hend.recv, hend.draws, hsend']
    exact ⟨hsend, hrecv'⟩
  | irqOther => exact (stepSix_movesNoByte _ s).atMostOne
  | irqStuck => exact MovesNoByte.atMostOne ⟨rfl, rfl, rfl⟩

/-- Settles O32, from the effects of `IRQ`. -/
theorem oneByteEachWayAtMost : Obligations.OneByteEachWayAtMost := by
  intro s t h
  have hmoves := (effect_of_exec h).atMostOne_of_irq
  simpa [SendsAtMostOne, ReceivesAtMostOne, State.sendCursor, State.recvCursor, ByteCursor.next, and_assoc] using hmoves

/-! ## A duplex invocation in the invariant (R142, R143) -/

theorem hasFlag_and (f : SrFlag) (r m : Reg) : hasFlag f (r &&& m) = (hasFlag f r && hasFlag f m) :=
  BitVec.getLsbD_and

/-- A flag of the cause is enabled, and the enable law keeps the duplex source only while both counts are open. -/
theorem StateInv.counts_of_duplex {s : State} (h : StateInv s) (hd : Duplex s) :
    s.ctx.txRemaining ≠ 0#16 ∧ s.ctx.rxRemaining ≠ 0#16 := by
  obtain ⟨hdxp, -⟩ := hd
  rw [inCause, hasFlag_and, Bool.and_eq_true] at hdxp
  obtain ⟨henabled, -⟩ := hdxp
  obtain ⟨-, -, hopen⟩ := h.enables
  exact hopen henabled

/-- With both counts open, a duplex invocation that is not stopped moves both cursors. -/
theorem invocation_next_of_duplex {s t : State} (hd : Duplex s) (htx : s.ctx.txRemaining ≠ 0#16)
    (hrx : s.ctx.rxRemaining ≠ 0#16) (h : invocation s = some t) :
    t.sendCursor = s.sendCursor.next ∧ t.recvCursor = s.recvCursor.next := by
  rw [invocation_of_duplex hd, Option.map_eq_some_iff] at h
  obtain ⟨v, hv, rfl⟩ := h
  obtain ⟨u, hu, hv⟩ := Option.bind_eq_some_iff.mp hv
  have hend := completeHandled_movesNoByte v
  rw [hend.send, hend.recv]
  obtain ⟨h0, -⟩ | ⟨-, -, rfl⟩ := txMoveIf_eq hu
  · exact absurd h0 htx
  · obtain ⟨h0, -⟩ | ⟨-, -, rfl⟩ := rxMoveIf_eq hv
    · exact absurd h0 hrx
    · exact ⟨rfl, rfl⟩

theorem ByteCursor.left_next {c : ByteCursor} (h : c.left ≠ 0#16) : c.next.left.toNat + 1 = c.left.toNat := by
  rw [next]
  bv_omega

/-- Settles O33: the enable law opens both counts, and an invocation without an outcome would leave the marker. -/
theorem duplexMovesBothCursors : Obligations.DuplexMovesBothCursors := by
  intro s t hs hd h hnot
  obtain ⟨htx, hrx⟩ := hs.counts_of_duplex hd
  obtain ⟨-, rfl⟩ := execIrq_next h
  cases hi : invocation s with
  | none =>
    rw [hi] at hnot
    cases hnot
  | some t =>
    obtain ⟨hsend, hrecv⟩ := invocation_next_of_duplex hd htx hrx hi
    have hsent : t.sendCursor.left.toNat + 1 = s.sendCursor.left.toNat := hsend ▸ ByteCursor.left_next htx
    have hreceived : t.recvCursor.left.toNat + 1 = s.recvCursor.left.toNat := hrecv ▸ ByteCursor.left_next hrx
    exact ⟨congrArg ByteCursor.idx hsend, congrArg ByteCursor.idx hrecv, hsent, hreceived⟩

end Sys2Proof.Machine
end

section
/-! The Error/Disable Handler as an instruction, and its repetition on the flags it left (R149 to R152). -/
namespace Sys2Proof.Machine

open Sys2Proof.Says

/-- Settles O35. -/
theorem errorHandlerActsBySnapshot : Obligations.ErrorHandlerActsBySnapshot := by
  intro s sr0
  rw [exec_errh, execErrh, errorHandler_eq]

theorem errorsHandled_of_no_error {sr0 : Reg} (hsusp : ¬ (hasFlag .susp sr0 = true ∧ hasFlag .eot sr0 = true))
    (herr : sr0 &&& 0x360#32 = 0#32) (s : State) : errorsHandled sr0 s = s := by
  rw [errorsHandled, if_neg hsusp, if_pos herr]

/-- Clearing the bits a register has under a mask leaves none under it. -/
theorem and_not_and_and_eq_zero (r m : Reg) : r &&& ~~~ (r &&& m) &&& m = 0#32 := by
  rw [BitVec.and_assoc, BitVec.and_comm (~~~ _), ← BitVec.and_assoc]
  exact BitVec.and_not_self _

theorem hasFlag_of_and {f : SrFlag} {r m : Reg} (h : hasFlag f (r &&& m) = true) : hasFlag f r = true := by
  rw [hasFlag_and, Bool.and_eq_true] at h
  exact h.1

/-- The recovery from the pending flags leaves no error flag, and it sets no flag that would make the suspend case. -/
theorem errorsHandled_recovered {s : State} (hsusp : ¬ (hasFlag .susp s.p.sr = true ∧ hasFlag .eot s.p.sr = true)) :
    errorsHandled (recovered s.p.sr s).p.sr (recovered s.p.sr s) = recovered s.p.sr s :=
  errorsHandled_of_no_error (fun ⟨hs, he⟩ => hsusp ⟨hasFlag_of_and hs, hasFlag_of_and he⟩)
    (and_not_and_and_eq_zero s.p.sr 0x360#32) _

/-- Settles O36: the first call found no error flag, or left none. -/
theorem secondRecoveryChangesNothing : Obligations.SecondRecoveryChangesNothing := by
  intro s t hsusp h
  rw [errorHandlerActsBySnapshot] at h ⊢
  cases h
  by_cases herr : s.p.sr &&& 0x360#32 = 0#32
  · have hsame : errorsHandled s.p.sr s = s := errorsHandled_of_no_error hsusp herr s
    rw [hsame, hsame]
  · have hrec : errorsHandled s.p.sr s = recovered s.p.sr s := by
      rw [errorsHandled, if_neg hsusp, if_neg herr]
    rw [hrec, errorsHandled_recovered hsusp]

end Sys2Proof.Machine
end

section
/-! Reset, and the whole next state of a successful `INIT` (R105, R170, R173). -/
namespace Sys2Proof.Machine

open Sys2Proof.Says

/-- With no source enabled the interrupt line is low, whatever is pending (R42). -/
theorem irqLine_of_ie_eq_zero {s : State} (h : s.p.ie = 0#32) : irqLine s = false := by
  simp [irqLine, causeOf, h]

/-- Settles O9: the line is low because no source is enabled; every other value is one reset writes. -/
theorem resetLeavesTheSpecifiedState : Obligations.ResetLeavesTheSpecifiedState := by
  intro par
  simp [State.resetWith, irqLine_of_ie_eq_zero]

/-- Settles O10: a port the platform has passes the check of R104. -/
theorem initResetsTheDriver : Obligations.InitResetsTheDriver := by
  intro s sw port pin ho hport
  have hvalid : csPortValid s.par sw port = true :=
    csPortValid_iff.mpr fun ⟨hsw, habsent⟩ => absurd (hport hsw) (not_lt.mpr habsent)
  rw [exec_init, execInit, onPort_open ho, if_pos hvalid, initialise_eq]

end Sys2Proof.Machine
end
